-- ==== Sys2Proof/Word.lean ====
section
/-! DEFINITION. The word types of the block: bytes of the channel and of the payload buffer, and the 16-bit
registers and addresses (00_scope.md R5, 10_state.md R20). -/

namespace Sys2Proof

/-- The unit of the channel, of the payload and of the checksum (00_scope.md R5). -/
abbrev Byte := BitVec 8

/-- A 16-bit register or buffer address: `cnt`, `len`, `pb_addr` (10_state.md R20, R33). -/
abbrev Half := BitVec 16

end Sys2Proof
end

