-- ==== Sys2Proof/Config.lean ====
section
/-! DEFINITION. The fixed constants of 00_scope.md R5 and the default of its one parameter. The parameter
`BUDGET` itself is carried in the state (notes/assumptions/2.md). -/

namespace Sys2Proof.Config

/-- First byte of the sync marker (00_scope.md R5, 30_encoding.md R94). -/
def SYNC0 : Byte := 0xB5

/-- Second byte of the sync marker (00_scope.md R5, 30_encoding.md R94). -/
def SYNC1 : Byte := 0x62

/-- The byte the sync search expects next: `SYNC0` when `midx = 0`, `SYNC1` when `midx = 1` (10_state.md R22). -/
def expectedSync (midx : Bool) : Byte := if midx then SYNC1 else SYNC0

/-- The default of the parameter `BUDGET` (00_scope.md R5). -/
def defaultBudget : Nat := 16384

/-- Number of cells of the payload buffer; its addresses are 0 to `PBUF_SIZE - 1` (00_scope.md R5, 20_memory.md R64). -/
def PBUF_SIZE : Nat := 65535

/-- Largest payload length (00_scope.md R5). -/
def PAYLOAD_MAX : Nat := 65535

end Sys2Proof.Config
end

