-- ==== Sys2Proof/Syntax.lean ====
section
/-! DEFINITION. The syntax: one constructor per row of spec/opcode_table.json, and the three places a word is
read from (30_encoding.md R97, R98, R102). -/

namespace Sys2Proof

/-- What the block decodes. The first four are the command codes of the `cmd` port (30_encoding.md R98), the next
three the byte events of the sync search (R97), the last four the frame rows (R90, R96, R102). -/
inductive Instr where
  /-- `NONE`, no command (41_step_commands.md R141). -/
  | none
  /-- `SYNC`, start a sync search (R143). -/
  | sync
  /-- `READ`, start a frame read (R144, R145). -/
  | read
  /-- `RECV`, sync search and then frame read (R146). -/
  | recv
  /-- `SYNC_BYTE_0`, the first marker byte (42_sync.md R162). -/
  | syncByte0
  /-- `SYNC_BYTE_1`, the second marker byte (R163). -/
  | syncByte1
  /-- `SYNC_MISMATCH`, any byte that is not the expected one (R164). -/
  | syncMismatch (b : Byte)
  /-- `FRAME`, a frame with this class, id and payload length (43_read_frame.md R193). -/
  | frame (cls msgId : Byte) (len : Half)
  /-- `NAV5_CFG`, a frame of class 06 and id 24 (30_encoding.md R96). -/
  | nav5Cfg (len : Half)
  /-- `CFG_SAVE`, a frame of class 06, id 09 and length 13 (R96). -/
  | cfgSave
  /-- `ACK_ACK`, a frame of class 05, id 01 and length 2 (R96). -/
  | ackAck
  deriving DecidableEq, Repr

/-- Where the block finds a word to decode. Which of them is looked at is decided by the state
(41_step_commands.md R140). -/
inductive Slot where
  /-- The `cmd` port, two bits wide (30_encoding.md R98). -/
  | cmd
  /-- The byte answered to a poll in `SEEKING_SYNC` with this `midx` (R97). -/
  | marker (midx : Bool)
  /-- The first six bytes of a frame on the wire (R90, R102). -/
  | wire
  deriving DecidableEq, Repr

end Sys2Proof
end

