-- ==== Sys2Proof/WellFormed.lean ====
section
/-! DEFINITION. Which instruction a slot can hold. A frame row is the most specific one of the table: a frame that
one of the three known messages describes is not a plain `FRAME` (30_encoding.md R96, R102). -/

namespace Sys2Proof

/-- The frame headers that have a row of their own in the opcode table (30_encoding.md R96). -/
def knownHeader (cls msgId : Byte) (len : Half) : Bool :=
  (cls == 0x06 && msgId == 0x24) || (cls == 0x06 && msgId == 0x09 && len == 13) ||
    (cls == 0x05 && msgId == 0x01 && len == 2)

/-- The slot can hold the instruction: a command on the `cmd` port; a byte event whose condition
(30_encoding.md R97) `midx` meets; a frame row, `FRAME` only where no more specific row applies. -/
def wellFormed (sl : Slot) (i : Instr) : Bool :=
  match i with
  | .none => sl == .cmd
  | .sync => sl == .cmd
  | .read => sl == .cmd
  | .recv => sl == .cmd
  | .syncByte0 => sl == .marker false
  | .syncByte1 => sl == .marker true
  | .syncMismatch b =>
    match sl with
    | .marker m => b != Config.expectedSync m
    | .cmd => false
    | .wire => false
  | .frame c d l => sl == .wire && !knownHeader c d l
  | .nav5Cfg _ => sl == .wire
  | .cfgSave => sl == .wire
  | .ackAck => sl == .wire

end Sys2Proof
end

