-- ==== Sys2Proof/Decode.lean ====
section
/-! DEFINITION. The decoder, total on any bytes, and the encoder: the command word (30_encoding.md R98), the byte
events of the sync search (R97) and the first six bytes of a frame (R90, R91, R102). -/

namespace Sys2Proof

/-- Why bytes hold no instruction of a slot. -/
inductive DecodeError where
  /-- Fewer bytes than the slot's format has. Safe: nothing is decoded. -/
  | truncated
  /-- A byte above 3 given as a command word; the port is two bits wide (30_encoding.md R98). Safe: nothing is decoded. -/
  | notACommand
  /-- Six bytes that do not begin with the sync marker `B5 62` (30_encoding.md R94). Safe: nothing is decoded. -/
  | noMarker
  deriving DecidableEq, Repr

/-- The low byte of a 16-bit length, `len[7:0]` (30_encoding.md R90). -/
def lowByte (v : Half) : Byte := v.setWidth 8

/-- The high byte of a 16-bit length, `len[15:8]` (30_encoding.md R90). -/
def highByte (v : Half) : Byte := (v >>> 8).setWidth 8

/-- Length assembly: the first byte is the low half, the second the high half (30_encoding.md R91). -/
def joinBytes (lo hi : Byte) : Half := BitVec.ofNat 16 (lo.toNat + 256 * hi.toNat)

/-- The command codes (30_encoding.md R98). All four are defined. -/
def decodeCommand (c : BitVec 2) : Instr :=
  if c = 0 then .none else if c = 1 then .sync else if c = 2 then .read else .recv

/-- The classification of a byte in the sync search (30_encoding.md R97). -/
def decodeSyncByte (midx : Bool) (b : Byte) : Instr :=
  if b = Config.expectedSync midx then (if midx then .syncByte1 else .syncByte0) else .syncMismatch b

/-- The most specific frame row of the table for a class, id and length (30_encoding.md R96, R102). -/
def decodeHeader (cls msgId : Byte) (len : Half) : Instr :=
  if cls = 0x06 ∧ msgId = 0x24 then .nav5Cfg len
  else if cls = 0x06 ∧ msgId = 0x09 ∧ len = 13 then .cfgSave
  else if cls = 0x05 ∧ msgId = 0x01 ∧ len = 2 then .ackAck
  else .frame cls msgId len

/-- Decode the word that stands at the front of the bytes of a slot; the bytes after it are given back. -/
def decode (sl : Slot) (bs : List Byte) : Except DecodeError (Instr × List Byte) :=
  match sl, bs with
  | .cmd, b :: rest =>
    if b.toNat < 4 then .ok (decodeCommand (b.setWidth 2), rest) else .error .notACommand
  | .marker m, b :: rest => .ok (decodeSyncByte m b, rest)
  | .wire, s0 :: s1 :: c :: d :: lo :: hi :: rest =>
    if s0 = Config.SYNC0 ∧ s1 = Config.SYNC1 then .ok (decodeHeader c d (joinBytes lo hi), rest)
    else .error .noMarker
  | .cmd, [] => .error .truncated
  | .marker _, [] => .error .truncated
  | .wire, _ => .error .truncated

/-- The first six bytes of a frame: sync marker, class, id, length low byte first (30_encoding.md R90, R91). -/
def headerBytes (cls msgId : Byte) (len : Half) : List Byte :=
  [Config.SYNC0, Config.SYNC1, cls, msgId, lowByte len, highByte len]

/-- The words of an instruction (30_encoding.md R90, R97, R98). -/
def encode (i : Instr) : List Byte :=
  match i with
  | .none => [0]
  | .sync => [1]
  | .read => [2]
  | .recv => [3]
  | .syncByte0 => [Config.SYNC0]
  | .syncByte1 => [Config.SYNC1]
  | .syncMismatch b => [b]
  | .frame c d l => headerBytes c d l
  | .nav5Cfg l => headerBytes 0x06 0x24 l
  | .cfgSave => headerBytes 0x06 0x09 13
  | .ackAck => headerBytes 0x05 0x01 2

/-- The class, id and length a frame row stands for; the other rows have none (30_encoding.md R96). -/
def frameHeader (i : Instr) : Option (Byte × Byte × Half) :=
  match i with
  | .none => Option.none
  | .sync => Option.none
  | .read => Option.none
  | .recv => Option.none
  | .syncByte0 => Option.none
  | .syncByte1 => Option.none
  | .syncMismatch _ => Option.none
  | .frame c d l => some (c, d, l)
  | .nav5Cfg l => some (0x06, 0x24, l)
  | .cfgSave => some (0x06, 0x09, 13)
  | .ackAck => some (0x05, 0x01, 2)

/-- Byte number `k`, counted from the most significant, of a 48-bit word. -/
def wordByte (w k : Nat) : Byte := BitVec.ofNat 8 (w >>> (8 * (5 - k)))

/-- The six bytes of a frame row's word in wire order. The table writes frame byte 0 as the most significant byte
(30_encoding.md R102); a word that has the marker only when read from the least significant byte up is read so
(notes/assumptions/11.md). -/
def frameWordBytes (w : Nat) : List Byte :=
  if wordByte w 0 = Config.SYNC0 ∧ wordByte w 1 = Config.SYNC1 then (List.range 6).map (wordByte w)
  else ((List.range 6).map (wordByte w)).reverse

/-- The slot and the bytes of a word of the opcode table: up to 8 bits a command code (values 0 to 3) or a byte of the
sync search, which `0x62` reaches with `midx = 1` and every other byte with `midx = 0`; 48 bits a frame row. The one
row that fixes no bit is `SYNC_MISMATCH` (notes/assumptions/11.md). -/
def tableSlot (nbits w : Nat) : Option (Slot × List Byte) :=
  if nbits ≤ 8 then
    if nbits = 0 then some (.marker false, [wordByte w 5])
    else if w < 4 then some (.cmd, [wordByte w 5])
    else some (.marker (wordByte w 5 == Config.SYNC1), [wordByte w 5])
  else if nbits = 48 then some (.wire, frameWordBytes w)
  else Option.none

/-- The instruction the decoder reads from a word of the opcode table. -/
def decodeTableWord (nbits w : Nat) : Option Instr :=
  match tableSlot nbits w with
  | Option.none => Option.none
  | some (sl, bs) =>
    match decode sl bs with
    | .ok (i, _) => some i
    | .error _ => Option.none

end Sys2Proof
end

