-- ==== Sys2Proof/Machine/State.lean ====
section
/-! DEFINITION. The state of the block (10_state.md R20): thirteen registers and the payload buffer, with the three
inputs the step function takes from outside (R37), all of it plain data; the reasons a step can stop; the state after
reset (R39). -/

namespace Sys2Proof.Machine

/-- The nine control states (10_state.md R21, 30_encoding.md R99). -/
inductive St where
  /-- After reset, no operation started yet; a rest state. -/
  | idle
  /-- The sync search; busy. -/
  | seekingSync
  /-- A sync marker has just been consumed; a rest state. -/
  | synced
  /-- Reading class and id; busy. -/
  | readingHeader
  /-- Reading the two length bytes; busy. -/
  | readingLength
  /-- Reading the payload; busy. -/
  | readingPayload
  /-- Reading the two checksum bytes; busy. -/
  | readingChecksum
  /-- The last frame read succeeded; a rest state. -/
  | done
  /-- The last operation failed; a rest state. -/
  | failed
  deriving DecidableEq, Repr

/-- The failure kinds (30_encoding.md R100, 60_exceptions.md R240). They are results of the block, recorded in
`err`, and no stop of the machine (R253). -/
inductive Err where
  /-- No failure. -/
  | none
  /-- `BUDGET` polls without a sync marker (42_sync.md R165). -/
  | syncTimeout
  /-- `BUDGET` polls in one phase without its bytes (43_read_frame.md R190). -/
  | readTimeout
  /-- The received checksum bytes differ from the computed ones (R189). -/
  | checksumMismatch
  /-- `READ` accepted outside `SYNCED` (41_step_commands.md R145). -/
  | notSynced
  deriving DecidableEq, Repr

/-- One action of the host, from the program notation of 30_encoding.md R103. -/
inductive HostAct where
  /-- The host's input ports for one step (10_state.md R33). -/
  | drive (rst : Bool) (cmd : BitVec 2) (pbAddr : Half)
  /-- The pseudo-operation `WAIT`: steps with `cmd = NONE` until `busy = 0` (notes/assumptions/4.md). -/
  | wait
  deriving DecidableEq, Repr

/-- The payload buffer: the cells that have been written, addresses strictly rising. A cell that is not listed holds no
value (10_state.md R31). -/
abbrev Memory := List Host.Cell

/-- The state. The first fourteen fields are the spec's (10_state.md R20); the last three are the model's own copies of
what R37 calls parameters of the step relation. -/
structure State where
  /-- The control state (R21). -/
  st : St
  /-- The sync match index, one bit; `true` is 1 (R22). -/
  midx : Bool
  /-- The receive-chain flag, one bit; `true` is 1 (R23). -/
  chain : Bool
  /-- Attempts left in the current phase (R24). -/
  att : Nat
  /-- Bytes collected in the current exact read (R25). -/
  cnt : Half
  /-- Message class (R26). -/
  cls : Byte
  /-- Message id (R26). -/
  id : Byte
  /-- Payload length (R27). -/
  len : Half
  /-- Running checksum accumulator A (R28). -/
  ckA : Byte
  /-- Running checksum accumulator B (R28). -/
  ckB : Byte
  /-- First checksum byte as received (R29). -/
  rxA : Byte
  /-- Second checksum byte as received (R29). -/
  rxB : Byte
  /-- Failure kind of the last operation (R30). -/
  err : Err
  /-- The payload buffer (R31). -/
  pbuf : Memory
  /-- The parameter `BUDGET` (00_scope.md R5); no step writes it (notes/assumptions/2.md). -/
  budget : Nat
  /-- The poll responses still to come (20_memory.md R62; notes/assumptions/1.md). -/
  chan : List (Option Byte)
  /-- The host actions still to come (30_encoding.md R103; notes/assumptions/1.md). -/
  host : List HostAct
  deriving DecidableEq, Repr

/-- Why a step stops with a fault. Neither arises in a state that a run from reset reaches (10_state.md R36). -/
inductive Fault where
  /-- Raised by the byte polls of a two-byte phase when `cnt` is neither 0 nor 1: no rule applies
  (43_read_frame.md R182 to R189). Safe: the model stops where the spec gives no effect. -/
  | cntOutOfPhase
  /-- Raised by a payload buffer write at an address that does not exist (20_memory.md R64). Safe: the model stops
  where the spec gives no effect. -/
  | pbufAddress (addr : Nat)
  deriving DecidableEq, Repr

/-- Why the model declines to answer. -/
inductive Refusal where
  /-- Raised by an arm of `exec` whose instruction has no meaning yet. Safe: nothing is claimed of it. -/
  | notModelled (mnemonic : String)
  /-- Raised by `step` when `BUDGET` is 0: the spec refuses that parameter (00_scope.md R5, U3). Safe. -/
  | budgetZero
  /-- Raised by a host read of a port outside its "specified when" condition (10_state.md R34, U1, U2). Safe: no value
  is claimed. -/
  | portUnspecified
  /-- Raised by a host read of a payload cell that nothing has written (10_state.md R31, U2). Safe: no value is
  claimed. -/
  | cellUnwritten
  deriving DecidableEq, Repr

/-- The three outcomes of a step of this machine. -/
abbrev Result := Host.Outcome State Fault Refusal

/-- The state after reset (10_state.md R39), nothing written to the payload buffer yet (R31), the default budget
(00_scope.md R5), and no input placed: a silent channel and a host that presents `NONE`. -/
def State.reset : State where
  st := .idle
  midx := false
  chain := false
  att := 0
  cnt := 0
  cls := 0
  id := 0
  len := 0
  ckA := 0
  ckB := 0
  rxA := 0
  rxB := 0
  err := .none
  pbuf := []
  budget := Config.defaultBudget
  chan := []
  host := []

end Sys2Proof.Machine
end

