-- ==== Sys2Proof/Machine/Flags.lean ====
section
/-! DEFINITION. The status outputs, all of them functions of the state (10_state.md R32), and the numeric codes of
`st` and `err` (30_encoding.md R99, R100); and the host's input ports in the coming step (10_state.md R33). -/

namespace Sys2Proof.Machine

/-- `busy`: the sync search or a read phase is in progress (10_state.md R32). -/
def St.busy (st : St) : Bool :=
  match st with
  | .idle => false
  | .seekingSync => true
  | .synced => false
  | .readingHeader => true
  | .readingLength => true
  | .readingPayload => true
  | .readingChecksum => true
  | .done => false
  | .failed => false

/-- A `READING_` state (10_state.md R21). -/
def St.reading (st : St) : Bool := st.busy && st != .seekingSync

/-- `busy` (10_state.md R32). -/
def State.busy (s : State) : Bool := s.st.busy

/-- `cmd_ready` (10_state.md R32). -/
def State.cmdReady (s : State) : Bool := !s.st.busy

/-- `synced` (10_state.md R32). -/
def State.synced (s : State) : Bool := s.st == .synced

/-- `done`, also called `frame_valid` (10_state.md R32). -/
def State.done (s : State) : Bool := s.st == .done

/-- `failed` (10_state.md R32). -/
def State.failed (s : State) : Bool := s.st == .failed

/-- The `rst` port in the coming step: the head of the host's actions; a host with no action left, or one that waits,
does not reset. -/
def State.rstNow (s : State) : Bool :=
  match s.host with
  | .drive rst _ _ :: _ => rst
  | .wait :: _ => false
  | [] => false

/-- The `pb_addr` port in the coming step (10_state.md R33). DESIGN CHOICE (notes/assumptions/19.md): while the host waits, and
once it has no action left, the port carries 0; the spec names no address there (10_state.md R33, 30_encoding.md R103). -/
def State.pbAddrNow (s : State) : Half :=
  match s.host with
  | .drive _ _ a :: _ => a
  | .wait :: _ => 0
  | [] => 0

/-- `rx_ready`, the status output that the host reads: a function of `st` at the start of the step (10_state.md R32, R34,
20_memory.md R75; notes/assumptions/13.md). -/
def State.rxReady (s : State) : Bool := s.st.busy

/-- `rx_ready` toward the channel, in the coming step: the block polls when it is busy and the step is no reset step
(20_memory.md R61, 70_reset_and_hazards.md R270; notes/assumptions/13.md). -/
def State.rxReadyNow (s : State) : Bool := s.rxReady && !s.rstNow

/-- The code of a control state (30_encoding.md R99). -/
def St.code (st : St) : BitVec 4 :=
  match st with
  | .idle => 0
  | .seekingSync => 1
  | .synced => 2
  | .readingHeader => 3
  | .readingLength => 4
  | .readingPayload => 5
  | .readingChecksum => 6
  | .done => 7
  | .failed => 8

/-- The control state of a code; the codes 9 to 15 are never held and name none (30_encoding.md R99, R101, U5). -/
def St.ofCode (c : BitVec 4) : Option St :=
  [St.idle, .seekingSync, .synced, .readingHeader, .readingLength, .readingPayload, .readingChecksum, .done,
    .failed][c.toNat]?

/-- The code of a failure kind (30_encoding.md R100). -/
def Err.code (e : Err) : BitVec 3 :=
  match e with
  | .none => 0
  | .syncTimeout => 1
  | .readTimeout => 2
  | .checksumMismatch => 3
  | .notSynced => 4

/-- The failure kind of a code; the codes 5 to 7 are never held and name none (30_encoding.md R100, R101, U5). -/
def Err.ofCode (c : BitVec 3) : Option Err :=
  [Err.none, .syncTimeout, .readTimeout, .checksumMismatch, .notSynced][c.toNat]?

end Sys2Proof.Machine
end

