-- ==== Sys2Proof/Machine/Operands.lean ====
section
/-! DEFINITION. The operand of a busy step: the poll response at the head of the channel (20_memory.md R61, R62), and
the bytes an instruction that is read from the channel puts there. -/

namespace Sys2Proof.Machine

/-- What the coming poll answers: the head of the channel; a channel that has run out is silent
(20_memory.md R62). -/
def State.response (s : State) : Option Byte :=
  match s.chan with
  | [] => none
  | r :: _ => r

/-- The poll consumes the head of the channel (20_memory.md R61). -/
def State.popChan (s : State) : State := { s with chan := s.chan.tail }

/-- The host's action of this step is used up. -/
def State.popHost (s : State) : State := { s with host := s.host.tail }

/-- These bytes are what the channel offers next, in place of as many responses at its head
(notes/assumptions/5.md, 6.md). Where they stand there already, nothing changes. -/
def State.offer (bs : List Byte) (s : State) : State :=
  { s with chan := bs.map some ++ s.chan.drop bs.length }

/-- The bytes at the head of the channel, as far as they follow without an empty poll, at most `n` of them. -/
def headBytes (n : Nat) (chan : List (Option Byte)) : List Byte :=
  match n, chan with
  | 0, _ => []
  | _ + 1, [] => []
  | _ + 1, none :: _ => []
  | n + 1, some b :: rest => b :: headBytes n rest

end Sys2Proof.Machine
end

