-- ==== Sys2Proof/Machine/Ops.lean ====
section
/-! DEFINITION. The named operations over the payload buffer and the registers: the micro-operations of
00_scope.md R8, the failure entry (41_step_commands.md R150, 60_exceptions.md R245), the reset step
(70_reset_and_hazards.md R271) and the acceptance of the commands (41_step_commands.md R142 to R147). -/

namespace Sys2Proof.Machine

/-! ## The payload buffer -/

/-- `MemRead(addr, 1)` (00_scope.md R8); a cell never written holds no value (10_state.md R31). -/
def Memory.read (m : Memory) (addr : Nat) : Option Byte :=
  match m with
  | [] => none
  | (a, v) :: rest => if a = addr then some v else Memory.read rest addr

/-- One cell written, the addresses kept rising. -/
def Memory.write (m : Memory) (addr : Nat) (v : Byte) : Memory :=
  match m with
  | [] => [(addr, v)]
  | (a, w) :: rest =>
    if addr < a then (addr, v) :: (a, w) :: rest
    else if addr = a then (addr, v) :: rest
    else (a, w) :: Memory.write rest addr v

/-- The canonical form: addresses strictly rising, every address one that exists (20_memory.md R64). An unlisted cell
has no value, so no entry can equal what an unlisted cell reads as. -/
abbrev Memory.wf (m : Memory) : Prop :=
  m.Pairwise (fun x y => x.1 < y.1) ∧ ∀ c ∈ m, c.1 < Config.PBUF_SIZE

/-- The `n` bytes from address `a` up, if each of these cells has been written. -/
def Memory.readFrom (m : Memory) (a n : Nat) : Option (List Byte) :=
  match n with
  | 0 => some []
  | n + 1 =>
    match Memory.read m a, Memory.readFrom m (a + 1) n with
    | some b, some bs => some (b :: bs)
    | some _, none => none
    | none, _ => none

/-! ## The registers -/

/-- `ck_update(b)`: the NEW `ckA` is added to `ckB` (40_frame_checksum.md R122). -/
def ckUpdate (b : Byte) (s : State) : State :=
  { s with ckA := s.ckA + b, ckB := s.ckB + (s.ckA + b) }

/-- Every poll costs one attempt (42_sync.md R160, 43_read_frame.md R181). -/
def charge (s : State) : State := { s with att := s.att - 1 }

/-- The state after a poll: its response is consumed and its attempt charged. -/
def polled (s : State) : State := charge s.popChan

/-- The byte counter written (10_state.md R25). -/
def setCnt (n : Half) (s : State) : State := { s with cnt := n }

/-- One payload cell written (10_state.md R31). -/
def storeCell (addr : Nat) (v : Byte) (s : State) : State := { s with pbuf := s.pbuf.write addr v }

/-- `MemWrite(addr, 1, v)` (00_scope.md R8); an address that does not exist faults (20_memory.md R64). -/
def memWrite (addr : Nat) (v : Byte) (s : State) : Result :=
  if addr < Config.PBUF_SIZE then .next (storeCell addr v s) else .fault (.pbufAddress addr)

/-- `begin_read()` (41_step_commands.md R147). -/
def beginRead (s : State) : State :=
  { s with ckA := 0, ckB := 0, cnt := 0, att := s.budget, st := .readingHeader }

/-- A read phase is complete and the next one begins (43_read_frame.md R191). -/
def nextPhase (st : St) (s : State) : State := { s with cnt := 0, att := s.budget, st := st }

/-- The start of a sync search by `SYNC` (`chain = 0`) or `RECV` (`chain = 1`) (41_step_commands.md R143, R146). -/
def startSearch (chain : Bool) (s : State) : State :=
  { s with st := .seekingSync, midx := false, chain := chain, att := s.budget, cnt := 0, err := .none }

/-! ## Failure entry, and what stands for a return

There is no return from a failure (60_exceptions.md R247): nothing was saved, and `FAILED` is left by a command or by
reset. -/

/-- `fail(k)`: the failure entry writes `st` and `err` and nothing else (41_step_commands.md R150,
60_exceptions.md R245). -/
def fail (k : Err) (s : State) : State := { s with st := .failed, err := k }

/-- Exhaustion, tested after completion: the step did not complete and no attempt is left (42_sync.md R165,
43_read_frame.md R190, 60_exceptions.md R244). The attempt of this step is already charged. -/
def orTimeout (k : Err) (s : State) : State := if s.att = 0 then fail k s else s

/-- The reset step: every register takes its reset value; the payload buffer and the channel are left alone
(10_state.md R39, 70_reset_and_hazards.md R271, R272). -/
def resetRegs (s : State) : State :=
  { s with
    st := .idle, midx := false, chain := false, att := 0, cnt := 0, cls := 0, id := 0, len := 0, ckA := 0, ckB := 0,
    rxA := 0, rxB := 0, err := .none }

end Sys2Proof.Machine
end

