-- ==== Sys2Proof/Machine/FrameRead.lean ====
section
/-! DEFINITION. One poll of the frame read, phase by phase (43_read_frame.md R181 to R191). The attempt of the step is
already charged. -/

namespace Sys2Proof.Machine

/-- The class byte (43_read_frame.md R182). -/
def classStored (b : Byte) (s : State) : State := setCnt 1 (ckUpdate b { s with cls := b })

/-- The id byte; the header is complete (43_read_frame.md R183, R191). -/
def idStored (b : Byte) (s : State) : State := nextPhase .readingLength (ckUpdate b { s with id := b })

/-- A poll in `READING_HEADER` (43_read_frame.md R181 to R183, R190). -/
def headerPoll (r : Option Byte) (s : State) : Result :=
  match r with
  | none => .next (orTimeout .readTimeout s)
  | some b =>
    if s.cnt = 0 then .next (orTimeout .readTimeout (classStored b s))
    else if s.cnt = 1 then .next (idStored b s)
    else .fault .cntOutOfPhase

/-- The phase that follows the length: the payload phase is skipped for a zero length (43_read_frame.md R185, R186). -/
def afterLength (len : Half) : St := if len = 0 then .readingChecksum else .readingPayload

/-- The low length byte; the high half is 0 until the next one (43_read_frame.md R184). -/
def lengthLowStored (b : Byte) (s : State) : State := setCnt 1 (ckUpdate b { s with len := b.setWidth 16 })

/-- The length is complete, its last byte `b` (43_read_frame.md R185, R186, R191). -/
def lengthStored (len : Half) (b : Byte) (s : State) : State :=
  nextPhase (afterLength len) (ckUpdate b { s with len := len })

/-- A poll in `READING_LENGTH` (43_read_frame.md R181, R184 to R186, R190). -/
def lengthPoll (r : Option Byte) (s : State) : Result :=
  match r with
  | none => .next (orTimeout .readTimeout s)
  | some b =>
    if s.cnt = 0 then .next (orTimeout .readTimeout (lengthLowStored b s))
    else if s.cnt = 1 then .next (lengthStored (joinBytes (lowByte s.len) b) b s)
    else .fault .cntOutOfPhase

/-- The registers after a payload byte has been stored: the phase is complete when `cnt + 1 = len`, computed without
wrap-around (43_read_frame.md R187). -/
def payloadStored (b : Byte) (s : State) : State :=
  if s.cnt.toNat + 1 = s.len.toNat then nextPhase .readingChecksum (ckUpdate b s)
  else orTimeout .readTimeout (setCnt (s.cnt + 1) (ckUpdate b s))

/-- A poll in `READING_PAYLOAD` (43_read_frame.md R181, R187, R190). -/
def payloadPoll (r : Option Byte) (s : State) : Result :=
  match r with
  | none => .next (orTimeout .readTimeout s)
  | some b =>
    match memWrite s.cnt.toNat b s with
    | .next t => .next (payloadStored b t)
    | .fault e => .fault e
    | .refused e => .refused e

/-- The frame is valid (43_read_frame.md R189, R192). -/
def frameDone (s : State) : State := { s with st := .done }

/-- The validation of the received checksum bytes (40_frame_checksum.md R126, 43_read_frame.md R189). -/
def validate (s : State) : State :=
  if s.rxA = s.ckA ∧ s.rxB = s.ckB then frameDone s else fail .checksumMismatch s

/-- The first checksum byte; nothing is compared yet (43_read_frame.md R188). -/
def rxAStored (b : Byte) (s : State) : State := setCnt 1 { s with rxA := b }

/-- The second checksum byte (43_read_frame.md R189). -/
def rxBStored (b : Byte) (s : State) : State := setCnt 0 { s with rxB := b }

/-- A poll in `READING_CHECKSUM` (43_read_frame.md R181, R188 to R190). -/
def checksumPoll (r : Option Byte) (s : State) : Result :=
  match r with
  | none => .next (orTimeout .readTimeout s)
  | some b =>
    if s.cnt = 0 then .next (orTimeout .readTimeout (rxAStored b s))
    else if s.cnt = 1 then .next (validate (rxBStored b s))
    else .fault .cntOutOfPhase

end Sys2Proof.Machine
end

