-- ==== Sys2Proof/Machine/Sync.lean ====
section
/-! DEFINITION. One poll of the resynchronizer (42_sync.md R160 to R166). -/

namespace Sys2Proof.Machine

/-- `midx <- 1`: the first marker byte (42_sync.md R162). -/
def firstMatched (s : State) : State := { s with midx := true }

/-- `midx <- 0`: after the second marker byte (42_sync.md R163), and after a mismatch, whose byte is not compared again
(R164). -/
def clearMidx (s : State) : State := { s with midx := false }

/-- `st <- SYNCED` (42_sync.md R163). -/
def restSynced (s : State) : State := { s with st := .synced }

/-- The second marker byte: the search succeeds, into `SYNCED` or, for `RECV`, into the frame read
(42_sync.md R163). -/
def syncFound (s : State) : State := if s.chain then beginRead (clearMidx s) else restSynced (clearMidx s)

/-- What a poll response does in `SEEKING_SYNC`, its attempt already charged (42_sync.md R161 to R165). Success is
tested before exhaustion (R166). -/
def seekPoll (r : Option Byte) (s : State) : State :=
  match r with
  | none => orTimeout .syncTimeout s
  | some b =>
    if b = Config.expectedSync s.midx then
      if s.midx then syncFound s else orTimeout .syncTimeout (firstMatched s)
    else orTimeout .syncTimeout (clearMidx s)

end Sys2Proof.Machine
end

