-- ==== Sys2Proof/Machine/Poll.lean ====
section
/-! DEFINITION. The busy branch of the step function (41_step_commands.md R140, R149), a step in which the host
presents `NONE`, and waiting for the block to come to rest (30_encoding.md R103). -/

namespace Sys2Proof.Machine

/-- A step in a busy state: one poll, one attempt, and the rules of the state (41_step_commands.md R140, R149). In a
rest state nothing is polled (20_memory.md R61). -/
def busyStep (s : State) : Result :=
  match s.st with
  | .idle => .next s
  | .seekingSync => .next (seekPoll s.response (polled s))
  | .synced => .next s
  | .readingHeader => headerPoll s.response (polled s)
  | .readingLength => lengthPoll s.response (polled s)
  | .readingPayload => payloadPoll s.response (polled s)
  | .readingChecksum => checksumPoll s.response (polled s)
  | .done => .next s
  | .failed => .next s

/-- A command has its effect in a rest state only; in a busy state the `cmd` port is not looked at and the step polls
(41_step_commands.md R140, R148). -/
def atRest (accept : State → State) (s : State) : Result :=
  if s.busy then busyStep s else .next (accept s)

/-- Busy steps until the block is at rest, at most `n` of them. -/
def awaitRestWithin (n : Nat) (s : State) : Result :=
  match n with
  | 0 => .next s
  | n + 1 =>
    if s.busy then
      match busyStep s with
      | .next t => awaitRestWithin n t
      | .fault e => .fault e
      | .refused e => .refused e
    else .next s

/-- No operation polls more often: the phase it is in has `att` attempts left and at most four phases follow, each with
`BUDGET` (41_step_commands.md R152). -/
def pollBound (s : State) : Nat := s.att + 4 * s.budget + 1

/-- `WAIT`: steps with `cmd = NONE` until `busy = 0` (30_encoding.md R103). -/
def awaitRest (s : State) : Result := awaitRestWithin (pollBound s) s

end Sys2Proof.Machine
end

