-- ==== Sys2Proof/Machine/Commands.lean ====
section
/-! DEFINITION. The meanings of the four commands (41_step_commands.md R141 to R148): a step with `rst = 0` in which the
host presents that code. -/

namespace Sys2Proof.Machine

/-- `NONE` (41_step_commands.md R141). -/
def execNone (s : State) : Result := atRest (fun t => t) s

/-- `SYNC` (41_step_commands.md R143). -/
def execSync (s : State) : Result := atRest (startSearch false) s

/-- `chain <- 0` (41_step_commands.md R144, R145). -/
def unchained (s : State) : State := { s with chain := false }

/-- `err <- NONE` (41_step_commands.md R144). -/
def noError (s : State) : State := { s with err := .none }

/-- What an accepted `READ` does: a frame read from `SYNCED` (41_step_commands.md R144), `NOT_SYNCED` from the other
rest states (R145). -/
def acceptRead (s : State) : State :=
  if s.st = .synced then beginRead (noError (unchained s)) else fail .notSynced (unchained s)

/-- `READ` (41_step_commands.md R144, R145). -/
def execRead (s : State) : Result := atRest acceptRead s

/-- `RECV` (41_step_commands.md R146). -/
def execRecv (s : State) : Result := atRest (startSearch true) s

end Sys2Proof.Machine
end

