-- ==== Sys2Proof/Machine/Frames.lean ====
section
/-! DEFINITION. The meanings of the frame rows (30_encoding.md R90, R96, 43_read_frame.md R193): the frame's first six
bytes stand at the head of the channel, its payload and checksum after them, and the block takes what it needs of them,
poll by poll, until it is at rest (notes/assumptions/5.md). The parser is generic: no row is treated otherwise than
`FRAME` (43_read_frame.md R197). In a rest state the bytes wait in the channel (20_memory.md R76). -/

namespace Sys2Proof.Machine

/-- A frame with this header is on the wire and the block runs until it rests. -/
def receiveFrame (cls msgId : Byte) (len : Half) (s : State) : Result :=
  awaitRest (s.offer (headerBytes cls msgId len))

/-- `FRAME` (43_read_frame.md R193). -/
def execFrame (cls msgId : Byte) (len : Half) (s : State) : Result := receiveFrame cls msgId len s

/-- `NAV5_CFG` (30_encoding.md R96, 43_read_frame.md R193). -/
def execNav5Cfg (len : Half) (s : State) : Result := receiveFrame 0x06 0x24 len s

/-- `CFG_SAVE` (30_encoding.md R96, 43_read_frame.md R193). -/
def execCfgSave (s : State) : Result := receiveFrame 0x06 0x09 13 s

/-- `ACK_ACK` (30_encoding.md R96, 43_read_frame.md R193). -/
def execAckAck (s : State) : Result := receiveFrame 0x05 0x01 2 s

end Sys2Proof.Machine
end

