-- ==== Sys2Proof/Machine/SyncBytes.lean ====
section
/-! DEFINITION. The meanings of the byte events (30_encoding.md R97): a step with `rst = 0` and no command in which the
channel offers that byte. In `SEEKING_SYNC` it is classified by R160 to R166 of 42_sync.md; a read phase takes it as data
(43_read_frame.md R182 to R189); in a rest state it stays in the channel (20_memory.md R61). -/

namespace Sys2Proof.Machine

/-- `SYNC_BYTE_0` (42_sync.md R162). -/
def execSyncByte0 (s : State) : Result := atRest (fun t => t) (s.offer [Config.SYNC0])

/-- `SYNC_BYTE_1` (42_sync.md R163). -/
def execSyncByte1 (s : State) : Result := atRest (fun t => t) (s.offer [Config.SYNC1])

/-- `SYNC_MISMATCH` (42_sync.md R164). -/
def execSyncMismatch (b : Byte) (s : State) : Result := atRest (fun t => t) (s.offer [b])

end Sys2Proof.Machine
end

