-- ==== Sys2Proof/Machine/Dispatch.lean ====
section
/-! DEFINITION. One arm per row of spec/opcode_table.json. -/

namespace Sys2Proof.Machine

def exec (i : Instr) (s : State) : Host.Outcome State Fault Refusal :=
  match i with
  | .none => Sys2Proof.Machine.execNone s
  | .sync => Sys2Proof.Machine.execSync s
  | .read => Sys2Proof.Machine.execRead s
  | .recv => Sys2Proof.Machine.execRecv s
  | .syncByte0 => Sys2Proof.Machine.execSyncByte0 s
  | .syncByte1 => Sys2Proof.Machine.execSyncByte1 s
  | .syncMismatch b => Sys2Proof.Machine.execSyncMismatch b s
  | .frame c d l => Sys2Proof.Machine.execFrame c d l s
  | .nav5Cfg l => Sys2Proof.Machine.execNav5Cfg l s
  | .cfgSave => Sys2Proof.Machine.execCfgSave s
  | .ackAck => Sys2Proof.Machine.execAckAck s

end Sys2Proof.Machine
end

