-- ==== Sys2Proof/Machine/Fetch.lean ====
section
/-! DEFINITION. Which instruction the coming step runs. In a rest state it is the word on the `cmd` port, in the sync
search the byte the channel offers, and under `WAIT` a frame that stands whole at the head of the channel
(41_step_commands.md R140, 30_encoding.md R97, R98, R103). And the converse: a word placed where the step finds it. -/

namespace Sys2Proof.Machine

/-- The decoder's answer, less the bytes it gives back. -/
def decoded (sl : Slot) (bs : List Byte) : Option Instr :=
  match decode sl bs with
  | .ok (i, _) => some i
  | .error _ => none

/-- The instruction of a step in which the host presents `cmd`. In a busy state the code is not looked at and stands for
`NONE` (41_step_commands.md R148). -/
def fetchStep (cmd : BitVec 2) (s : State) : Instr :=
  if s.busy then
    match s.st == .seekingSync, s.response with
    | true, some b => decodeSyncByte s.midx b
    | true, none => .none
    | false, _ => .none
  else decodeCommand cmd

/-- The frame row that stands at the head of the channel when the sync search expects a frame's first byte. -/
def fetchFrame (s : State) : Option Instr :=
  if s.st = .seekingSync ∧ s.midx = false then decoded .wire (headBytes 6 s.chan) else none

/-- The length field of a frame's first six bytes (30_encoding.md R91). -/
def wordLength (bs : List Byte) : Half := joinBytes (bs.getD 4 0) (bs.getD 5 0)

/-- The channel holds these six bytes next, and zero bytes after them as far as the frame they begin reaches: payload
and checksum (30_encoding.md R90). They take the place of as many responses. -/
def State.placeFrame (bs : List Byte) (s : State) : State :=
  { s with
    chan := bs.map some ++
      (List.replicate ((wordLength bs).toNat + 2) (some 0) ++ s.chan.drop ((wordLength bs).toNat + 8)) }

/-- The host's action in the coming step, before those it had. -/
def State.placeHost (a : HostAct) (s : State) : State := { s with host := a :: s.host }

/-- A word of the opcode table placed where the coming step finds it (notes/assumptions/12.md): a command code on the
`cmd` port of a block at rest; a byte at the head of the channel of a sync search, with `midx` as the slot has it; a frame
at the head of the channel of a `RECV`, under `WAIT`. -/
def placeWord (sl : Slot) (bs : List Byte) (s : State) : State :=
  match sl with
  | .cmd =>
    State.placeHost (.drive false ((bs.getD 0 0).setWidth 2) 0) (if s.busy then { s with st := .idle } else s)
  | .marker m => State.placeHost (.drive false 0 0) ({ startSearch false s with midx := m }.offer bs)
  | .wire => State.placeHost .wait ((startSearch true s).placeFrame bs)

/-- A word of the opcode table placed so that the very next step runs it; what is no word of the table changes nothing. -/
def placeTableWord (nbits w : Nat) (s : State) : State :=
  match tableSlot nbits w with
  | some (sl, bs) => placeWord sl bs s
  | none => s

end Sys2Proof.Machine
end

