-- ==== Sys2Proof/Machine/Cycle.lean ====
section
/-! DEFINITION. What one step does: the host's action, the fetch, and the meaning of what is fetched
(41_step_commands.md R140). -/

namespace Sys2Proof.Machine

/-- A step with `rst = 0` in which the host presents `cmd` (41_step_commands.md R140). -/
def cmdStep (cmd : BitVec 2) (s : State) : Result := exec (fetchStep cmd s) s

/-- `WAIT` (30_encoding.md R103) as one step of the machine (notes/assumptions/4.md): the frame at the head of the
channel, if one stands there whole, or whatever else the channel brings. -/
def waitStep (s : State) : Result :=
  match fetchFrame s with
  | some i => exec i s
  | none => awaitRest s

/-- The host's next action; reset goes before everything else (41_step_commands.md R140, 60_exceptions.md R244). A host
with no action left presents `NONE`. -/
def hostStep (s : State) : Result :=
  match s.host with
  | [] => cmdStep 0 s
  | .drive true _ _ :: _ => .next (resetRegs s.popHost)
  | .drive false cmd _ :: _ => cmdStep cmd s.popHost
  | .wait :: _ => waitStep s.popHost

/-- One step; `BUDGET = 0` is refused (00_scope.md R5, 93_implementation_defined.md U3). -/
def cycle (s : State) : Result := if s.budget = 0 then .refused .budgetZero else hostStep s

end Sys2Proof.Machine
end

