-- ==== Sys2Proof/Machine/Ports.lean ====
section
/-! DEFINITION. The host's output ports (10_state.md R32, R34). Reads have no side effects, so a read is a function of
the state and of `pb_addr`; outside its "specified when" condition it is refused (U1, U2). -/

namespace Sys2Proof.Machine

/-- The output ports: the numbers 0 to 6 in this order, and the two handshake outputs, which have none
(10_state.md R34). -/
inductive HostPort where
  /-- Port 0, `STATUS`. -/
  | status
  /-- Port 1, `ERR`. -/
  | err
  /-- Port 2, `CLASS`. -/
  | cls
  /-- Port 3, `ID`. -/
  | id
  /-- Port 4, `LEN`. -/
  | len
  /-- Port 5, `CKSUM`. -/
  | cksum
  /-- Port 6, `PDATA`. -/
  | pdata
  /-- `cmd_ready`. -/
  | cmdReady
  /-- `rx_ready`. -/
  | rxReady
  deriving DecidableEq, Repr

/-- The port of a port number (10_state.md R34, 20_memory.md R68). -/
def HostPort.ofNumber (n : Nat) : Option HostPort :=
  [HostPort.status, .err, .cls, .id, .len, .cksum, .pdata][n]?

/-- The width of a port (10_state.md R34). -/
def HostPort.width (p : HostPort) : Nat :=
  match p with
  | .status => 8
  | .err => 3
  | .cls => 8
  | .id => 8
  | .len => 16
  | .cksum => 16
  | .pdata => 8
  | .cmdReady => 1
  | .rxReady => 1

/-- `STATUS`: the code of `st` in bits 3 to 0, then `busy`, `synced`, `done`, `failed` (10_state.md R34). -/
def statusByte (s : State) : Byte :=
  BitVec.ofBool s.failed ++ BitVec.ofBool s.done ++ BitVec.ofBool s.synced ++ BitVec.ofBool s.busy ++ s.st.code

/-- A port that is specified in `DONE` only (10_state.md R34). -/
def whenDone {w : Nat} (v : BitVec w) (s : State) : Except Refusal (BitVec w) :=
  if s.done then .ok v else .error .portUnspecified

/-- `PDATA`: the payload cell at `pb_addr`, specified in `DONE` below `len` (10_state.md R34, 20_memory.md R64). -/
def pdataByte (pbAddr : Half) (s : State) : Except Refusal Byte :=
  if s.done && pbAddr.toNat < s.len.toNat then
    match s.pbuf.read pbAddr.toNat with
    | some b => .ok b
    | none => .error .cellUnwritten
  else .error .portUnspecified

/-- A host read of a port in the step that starts in this state, with this `pb_addr` (10_state.md R34,
20_memory.md R75). -/
def readPort (p : HostPort) (pbAddr : Half) (s : State) : Except Refusal (BitVec p.width) :=
  match p with
  | .status => .ok (statusByte s)
  | .err => .ok s.err.code
  | .cls => whenDone s.cls s
  | .id => whenDone s.id s
  | .len => whenDone s.len s
  | .cksum => whenDone (joinBytes s.rxA s.rxB) s
  | .pdata => pdataByte pbAddr s
  | .cmdReady => .ok (BitVec.ofBool s.cmdReady)
  | .rxReady => .ok (BitVec.ofBool s.rxReady)

/-- What the output ports answer in the coming step, with the `pb_addr` the host drives in it (10_state.md R33), or 0 where it
drives none (DESIGN CHOICE, notes/assumptions/19.md). -/
def portNow (p : HostPort) (s : State) : Except Refusal (BitVec p.width) := readPort p s.pbAddrNow s

end Sys2Proof.Machine
end

