-- ==== Sys2Proof/Machine/Reference.lean ====
section
/-! DEFINITION. The Frame value, the checksum and the reference functions (40_frame_checksum.md R120 to R127), the
big-step forms of the operations (42_sync.md R167, 43_read_frame.md R193, R194) and the observation of a state
(10_state.md R35). The block computes none of these: its properties are stated through them. -/

namespace Sys2Proof.Machine

/-- A Frame: class, id and payload; length and checksum are derived (40_frame_checksum.md R120). Equality of frames is
equality of these three (R121). -/
structure Frame where
  /-- The message class. -/
  cls : Byte
  /-- The message id. -/
  msgId : Byte
  /-- The payload. -/
  payload : List Byte
  deriving DecidableEq, Repr

/-- The payload is at most 65535 bytes long (40_frame_checksum.md R120). -/
def Frame.fits (f : Frame) : Bool := f.payload.length ≤ Config.PAYLOAD_MAX

/-- The length field of a frame (40_frame_checksum.md R125). -/
def Frame.lenField (f : Frame) : Half := BitVec.ofNat 16 f.payload.length

/-- One byte more in the accumulator pair (40_frame_checksum.md R122). -/
def ckStep (ck : Byte × Byte) (b : Byte) : Byte × Byte := (ck.1 + b, ck.2 + (ck.1 + b))

/-- `checksum(bytes)` (40_frame_checksum.md R123). -/
def checksum (bs : List Byte) : Byte × Byte := bs.foldl ckStep (0, 0)

/-- The bytes a frame's checksum covers: class, id, length and payload (40_frame_checksum.md R125). -/
def coveredBytes (cls msgId : Byte) (len : Half) (payload : List Byte) : List Byte :=
  [cls, msgId, lowByte len, highByte len] ++ payload

/-- `frame_ck` (40_frame_checksum.md R125). -/
def frameCk (f : Frame) : Byte × Byte := checksum (coveredBytes f.cls f.msgId f.lenField f.payload)

/-- `serialize` (40_frame_checksum.md R127). -/
def serialize (f : Frame) : List Byte :=
  headerBytes f.cls f.msgId f.lenField ++ f.payload ++ [(frameCk f).1, (frameCk f).2]

/-! ## The big-step forms -/

/-- The head of a channel and what follows it; a channel that has run out is silent (20_memory.md R62). -/
def nextPoll (chan : List (Option Byte)) : Option Byte × List (Option Byte) :=
  match chan with
  | [] => (none, [])
  | r :: rest => (r, rest)

/-- `syncToFrame(chan)` with `n` attempts left and `midx` as given: whether the marker was found, and the rest of the
channel (42_sync.md R167). -/
def syncToFrame (n : Nat) (midx : Bool) (chan : List (Option Byte)) : Bool × List (Option Byte) :=
  match n with
  | 0 => (false, chan)
  | n + 1 =>
    match nextPoll chan with
    | (none, rest) => syncToFrame n midx rest
    | (some b, rest) =>
      if b = Config.expectedSync midx then
        if midx then (true, rest) else syncToFrame n true rest
      else syncToFrame n false rest

/-- `readExact(chan, n)` for `k` attempts: the bytes, if all `n` came in time, and the rest of the channel
(43_read_frame.md R193). No poll is made for zero bytes. -/
def readExact (k n : Nat) (chan : List (Option Byte)) : Option (List Byte) × List (Option Byte) :=
  match k, n with
  | _, 0 => (some [], chan)
  | 0, _ + 1 => (none, chan)
  | k + 1, n + 1 =>
    match nextPoll chan with
    | (none, rest) => readExact k (n + 1) rest
    | (some b, rest) => ((readExact k n rest).1.map (b :: ·), (readExact k n rest).2)

/-- How an operation that has come to rest has ended (10_state.md R35). -/
inductive Ending where
  /-- A sync marker was found by `SYNC`. -/
  | synced
  /-- A frame was read. -/
  | frame (f : Frame)
  /-- The operation failed. -/
  | failed (e : Err)
  deriving DecidableEq, Repr

/-- The two bytes an exact read of two bytes collected. -/
def pairOf (bs : Option (List Byte)) : Option (Byte × Byte) :=
  match bs with
  | some [a, b] => some (a, b)
  | some [] => none
  | some [_] => none
  | some (_ :: _ :: _ :: _) => none
  | none => none

/-- The last two phases of `readFrame(chan)`, payload and checksum (43_read_frame.md R193). -/
def readBody (budget : Nat) (cls msgId : Byte) (len : Half) (chan : List (Option Byte)) :
    Ending × List (Option Byte) :=
  match readExact budget len.toNat chan with
  | (none, rest) => (.failed .readTimeout, rest)
  | (some p, rest) =>
    match pairOf (readExact budget 2 rest).1 with
    | none => (.failed .readTimeout, (readExact budget 2 rest).2)
    | some ck =>
      if ck = checksum (coveredBytes cls msgId len p) then (.frame ⟨cls, msgId, p⟩, (readExact budget 2 rest).2)
      else (.failed .checksumMismatch, (readExact budget 2 rest).2)

/-- `readFrame(chan)` after class and id: the length phase and the rest (43_read_frame.md R193). -/
def readAfterHeader (budget : Nat) (cls msgId : Byte) (chan : List (Option Byte)) : Ending × List (Option Byte) :=
  match pairOf (readExact budget 2 chan).1 with
  | none => (.failed .readTimeout, (readExact budget 2 chan).2)
  | some l => readBody budget cls msgId (joinBytes l.1 l.2) (readExact budget 2 chan).2

/-- `readFrame(chan)` (43_read_frame.md R193). -/
def readFrame (budget : Nat) (chan : List (Option Byte)) : Ending × List (Option Byte) :=
  match pairOf (readExact budget 2 chan).1 with
  | none => (.failed .readTimeout, (readExact budget 2 chan).2)
  | some h => readAfterHeader budget h.1 h.2 (readExact budget 2 chan).2

/-- `RECV(chan)` (43_read_frame.md R194). -/
def recvFrame (budget : Nat) (chan : List (Option Byte)) : Ending × List (Option Byte) :=
  match syncToFrame budget false chan with
  | (true, rest) => readFrame budget rest
  | (false, rest) => (.failed .syncTimeout, rest)

/-- These poll responses deliver exactly these bytes, within `n` polls and none of them after the last byte: what one
phase polls when it succeeds (40_frame_checksum.md R129). -/
def delivers (n : Nat) (bs : List Byte) (responses : List (Option Byte)) : Prop :=
  responses.filterMap (fun r => r) = bs ∧ responses.length ≤ n ∧ responses.getLast? ≠ some none

/-- One bit of a byte flipped. -/
def flipBit (b : Byte) (k : Nat) : Byte := b ^^^ (1#8 <<< k)

/-- The second frame is the first with exactly one bit of one byte among class, id and payload flipped
(40_frame_checksum.md R130). -/
def oneBitFlipped (f g : Frame) : Prop :=
  ∃ k < 8,
    g = { f with cls := flipBit f.cls k } ∨ g = { f with msgId := flipBit f.msgId k } ∨
      ∃ pre b post, f.payload = pre ++ b :: post ∧ g = { f with payload := pre ++ flipBit b k :: post }

/-! ## The observation -/

/-- The payload of the frame being read or last read: the cells below `len`, if each has been written. -/
def payloadOf (s : State) : Option (List Byte) := s.pbuf.readFrom 0 s.len.toNat

/-- `frame(S)`, the observation of a state (10_state.md R35). -/
def frameOf (s : State) : Option Frame :=
  if s.st = .done then (payloadOf s).map (fun p => ⟨s.cls, s.id, p⟩) else none

/-- The outcome of an operation that has come to rest (10_state.md R35): none while one is in progress, and none in `IDLE`,
where there was no operation. -/
def endingOf (s : State) : Option Ending :=
  match s.st with
  | .idle => none
  | .seekingSync => none
  | .synced => some .synced
  | .readingHeader => none
  | .readingLength => none
  | .readingPayload => none
  | .readingChecksum => none
  | .done => (frameOf s).map .frame
  | .failed => some (.failed s.err)

end Sys2Proof.Machine
end

