-- ==== Sys2Proof/Safety.lean ====
section
/-! DEFINITION. What holds in every state that a run from reset reaches: the invariants of 10_state.md R36, the
canonical form of the payload buffer and the parameter's bound (00_scope.md R5). -/

namespace Sys2Proof.Machine

/-- The bytes the running checksum covers, taken from the registers they were stored in: those consumed since the frame
read began, checksum bytes not counted (10_state.md R28, R36 item 8). In a state where no frame read has begun there are
none; a payload cell never written gives no answer. -/
def coveredSoFar (s : State) : Option (List Byte) :=
  match s.st with
  | .idle => none
  | .seekingSync => none
  | .synced => none
  | .readingHeader => some (if s.cnt = 0 then [] else [s.cls])
  | .readingLength => some ([s.cls, s.id] ++ if s.cnt = 0 then [] else [lowByte s.len])
  | .readingPayload => (s.pbuf.readFrom 0 s.cnt.toNat).map (coveredBytes s.cls s.id s.len)
  | .readingChecksum => (payloadOf s).map (coveredBytes s.cls s.id s.len)
  | .done => (payloadOf s).map (coveredBytes s.cls s.id s.len)
  | .failed => none

/-- The invariants of 10_state.md R36. Item 1 is the type of `st`. -/
structure Inv (s : State) : Prop where
  /-- The parameter is at least 1 (00_scope.md R5). -/
  budget_pos : 1 ≤ s.budget
  /-- The payload buffer is in its canonical form. -/
  buffer_wf : s.pbuf.wf
  /-- Item 2. -/
  att_range : s.busy = true → 1 ≤ s.att ∧ s.att ≤ s.budget
  /-- Item 3. -/
  failed_iff : s.st = .failed ↔ s.err ≠ .none
  /-- Item 4. -/
  search_cnt : s.st = .seekingSync → s.cnt = 0
  /-- Item 5. -/
  pair_cnt : s.st = .readingHeader ∨ s.st = .readingLength ∨ s.st = .readingChecksum → s.cnt = 0 ∨ s.cnt = 1
  /-- Item 6. -/
  payload_cnt : s.st = .readingPayload → s.cnt.toNat < s.len.toNat
  /-- Items 7 and 8: the accumulators are the checksum of the bytes they cover. -/
  covered : s.st.reading = true ∨ s.st = .done → (coveredSoFar s).map checksum = some (s.ckA, s.ckB)
  /-- Item 7: the received checksum bytes are the computed ones. -/
  done_checksum : s.st = .done → s.rxA = s.ckA ∧ s.rxB = s.ckB

/-- The machine answers a next state: it neither faults nor refuses. -/
def goesOn (s : State) : Prop := ∃ t, step s = .next t

end Sys2Proof.Machine
end

