-- ==== Sys2Proof/Certificates/Slice0/Obligations.lean ====
section
/-! DEFINITION. The statements for the provers. -/

open Sys2Proof Sys2Proof.Machine

/-! ## Decoding and encoding -/

/-- Decode and encode agree, for every instruction and every slot that can hold it, whatever bytes follow
(30_encoding.md R90, R91, R97, R98, R102). -/
def Obligations.DecodeReadsBackEveryEncoding : Prop :=
  ∀ (sl : Slot) (i : Instr) (rest : List Byte),
    wellFormed sl i = true → decode sl (encode i ++ rest) = .ok (i, rest)

/-- What the decoder reads is an instruction its slot can hold, and the encoder writes back the same bytes: each word
has one meaning. -/
def Obligations.EncodeWritesBackEveryDecodedWord : Prop :=
  ∀ (sl : Slot) (bs rest : List Byte) (i : Instr),
    decode sl bs = .ok (i, rest) → wellFormed sl i = true ∧ encode i ++ rest = bs

/-- The decoder rejects by name what is no word of a slot (30_encoding.md R94, R98). -/
def Obligations.DecodeRejectsByName : Prop :=
  (∀ (b : Byte) (rest : List Byte), 4 ≤ b.toNat → decode .cmd (b :: rest) = .error .notACommand) ∧
  (∀ s0 s1 c d lo hi : Byte, ∀ rest : List Byte, ¬(s0 = 0xB5 ∧ s1 = 0x62) →
    decode .wire (s0 :: s1 :: c :: d :: lo :: hi :: rest) = .error .noMarker) ∧
  (∀ bs : List Byte, bs.length < 6 → decode .wire bs = .error .truncated) ∧
  decode .cmd [] = .error .truncated ∧ ∀ m : Bool, decode (.marker m) [] = .error .truncated

/-- Words written out from the spec's encodings decode to the instructions they stand for. -/
def Obligations.SampleWordsDecode : Prop :=
  decode .cmd [0b10] = .ok (.read, []) ∧
  decode (.marker false) [0b10110101] = .ok (.syncByte0, []) ∧
  decode (.marker true) [0b01100010] = .ok (.syncByte1, []) ∧
  decode (.marker true) [0b10110101] = .ok (.syncMismatch 0xB5, []) ∧
  decode .wire [0xB5, 0x62, 0x12, 0x34, 0x03, 0x01, 0xAA] = .ok (.frame 0x12 0x34 259, [0xAA]) ∧
  decode .wire [0xB5, 0x62, 0x06, 0x24, 0x00, 0x00] = .ok (.nav5Cfg 0, []) ∧
  decode .wire [0xB5, 0x62, 0x06, 0x09, 0x0D, 0x00] = .ok (.cfgSave, []) ∧
  decode .wire [0xB5, 0x62, 0x05, 0x01, 0x02, 0x00] = .ok (.ackAck, [])

/-- The command word: all four codes are defined (30_encoding.md R98). -/
def Obligations.AllFourCommandCodesDecode : Prop :=
  decode .cmd [0b00] = .ok (.none, []) ∧ decode .cmd [0b01] = .ok (.sync, []) ∧
  decode .cmd [0b10] = .ok (.read, []) ∧ decode .cmd [0b11] = .ok (.recv, []) ∧
  ∀ c : BitVec 2, ∃ i, decode .cmd [c.setWidth 8] = .ok (i, []) ∧ decodeCommand c = i

/-- The classification of a consumed byte by the match index (30_encoding.md R97). -/
def Obligations.SyncSearchClassifiesBytes : Prop :=
  ∀ b : Byte,
    decode (.marker false) [b] = .ok (if b = 0xB5 then .syncByte0 else .syncMismatch b, []) ∧
    decode (.marker true) [b] = .ok (if b = 0x62 then .syncByte1 else .syncMismatch b, [])

/-- Length assembly (30_encoding.md R91): low byte first. -/
def Obligations.LengthIsLittleEndian : Prop :=
  ∀ lo hi : Byte, (joinBytes lo hi).toNat = lo.toNat + 256 * hi.toNat ∧
    lowByte (joinBytes lo hi) = lo ∧ highByte (joinBytes lo hi) = hi

/-- The codes of `st` and `err` (30_encoding.md R99, R100): each member has its code and its kind, and the other codes name
nothing. -/
def Obligations.StateAndErrorCodes : Prop :=
  (∀ st : St, St.ofCode st.code = some st) ∧ (∀ e : Err, Err.ofCode e.code = some e) ∧
  (∀ c : BitVec 4, 9 ≤ c.toNat → St.ofCode c = none) ∧ (∀ c : BitVec 3, 5 ≤ c.toNat → Err.ofCode c = none) ∧
  [St.idle, .seekingSync, .synced, .readingHeader, .readingLength, .readingPayload, .readingChecksum, .done,
    .failed].map St.code = [0, 1, 2, 3, 4, 5, 6, 7, 8] ∧
  [St.idle, .seekingSync, .synced, .readingHeader, .readingLength, .readingPayload, .readingChecksum, .done,
    .failed].map St.busy = [false, true, false, true, true, true, true, false, false] ∧
  [Err.none, .syncTimeout, .readTimeout, .checksumMismatch, .notSynced].map Err.code = [0, 1, 2, 3, 4]

/-! ## The step -/

/-- A step runs the decoded instruction (41_step_commands.md R140, 30_encoding.md R97, R98, R102, R103): at rest the
command on the port; in the sync search the byte the channel answers; in every other busy step `NONE`, which polls; under
`WAIT` (the model's macro step, notes/assumptions/4.md) the frame at the head of the channel, or else the busy steps to
rest. A host with no action left presents `NONE` (notes/assumptions/1.md). -/
def Obligations.StepRunsDecodedInstruction : Prop :=
  ∀ s : State, 1 ≤ s.budget →
    (∀ c a h, s.host = .drive false c a :: h →
      (∀ i, s.busy = false → decode .cmd [c.setWidth 8] = .ok (i, []) → step s = exec i s.popHost) ∧
      (∀ b i, s.st = .seekingSync → s.response = some b → decode (.marker s.midx) [b] = .ok (i, []) →
        step s = exec i s.popHost) ∧
      (s.busy = true → (s.st = .seekingSync → s.response = none) → step s = exec .none s.popHost)) ∧
    (s.host = [] → step s = step { s with host := [.drive false 0 0] }) ∧
    (∀ h, s.host = .wait :: h →
      (∀ i rest, s.st = .seekingSync → s.midx = false → decode .wire (headBytes 6 s.chan) = .ok (i, rest) →
        step s = exec i s.popHost) ∧
      ((∀ i rest, decode .wire (headBytes 6 s.chan) ≠ .ok (i, rest)) ∨ s.st ≠ .seekingSync ∨ s.midx = true →
        step s = awaitRest s.popHost))

/-- Commands while busy (41_step_commands.md R148, R140): the value on `cmd` has no effect; the step is the poll of the
state it starts in. -/
def Obligations.CommandsAreIgnoredWhileBusy : Prop :=
  ∀ (s : State) (c : BitVec 2) (a : Half) (h : List HostAct), 1 ≤ s.budget → s.busy = true →
    s.host = .drive false c a :: h → step s = busyStep { s with host := h } ∧
      ∀ i : Instr, wellFormed .cmd i = true → exec i s = busyStep s

/-- The reset step (10_state.md R39, 70_reset_and_hazards.md R270, R272): every register takes its reset value, whatever
the command and the state; the payload buffer and the channel are untouched; nothing is polled. -/
def Obligations.ResetStepClearsTheRegisters : Prop :=
  ∀ (s : State) (c : BitVec 2) (a : Half) (h : List HostAct), 1 ≤ s.budget → s.host = .drive true c a :: h →
    s.rxReadyNow = false ∧
    ∃ t, step s = .next t ∧
      t = { s with
        st := .idle, midx := false, chain := false, att := 0, cnt := 0, cls := 0, id := 0, len := 0, ckA := 0, ckB := 0,
        rxA := 0, rxB := 0, err := .none, host := h } ∧
      t.busy = false ∧ t.cmdReady = true ∧ t.rxReady = false ∧ t.synced = false ∧ t.done = false ∧ t.failed = false ∧
      frameOf t = none

/-- `BUDGET = 0` is refused (00_scope.md R5, 93_implementation_defined.md U3). -/
def Obligations.ZeroBudgetIsRefused : Prop :=
  ∀ s : State, s.budget = 0 → step s = .refused .budgetZero

/-- Totality (60_exceptions.md R253): in every state of the invariant every input has a successor; the machine neither
faults nor refuses. -/
def Obligations.InvariantStatesAlwaysGoOn : Prop :=
  ∀ s : State, Inv s → goesOn s

/-- The invariants of 10_state.md R36 are kept by every step. -/
def Obligations.EveryStepKeepsTheInvariant : Prop :=
  ∀ s t : State, Inv s → step s = .next t → Inv t

/-- The invariants hold at reset. The default budget and the empty inputs of `State.reset` are the model's placement of
the parameters (notes/assumptions/1.md, 2.md). -/
def Obligations.ResetStateHasTheInvariant : Prop := Inv State.reset

/-- One reset step from any state at all, as after power-on, gives a state of the invariant
(70_reset_and_hazards.md R273). -/
def Obligations.ResetStepEstablishesTheInvariant : Prop :=
  ∀ (s : State) (c : BitVec 2) (a : Half) (h : List HostAct), 1 ≤ s.budget → s.pbuf.wf →
    s.host = .drive true c a :: h → ∃ t, step s = .next t ∧ Inv t

/-! ## The commands -/

/-- `NONE` (41_step_commands.md R141): at rest nothing is written and nothing is polled; in a busy state it stands for the
poll of that state. -/
def Obligations.NoneAtRestChangesNothing : Prop :=
  decodeCommand 0b00 = .none ∧ (∀ s : State, s.busy = false → exec .none s = .next s) ∧
  ∀ s : State, s.busy = true → exec .none s = busyStep s

/-- `SYNC` accepted (41_step_commands.md R142, R143): these six registers, and no other. -/
def Obligations.SyncStartsASearch : Prop :=
  ∀ s : State, s.busy = false →
    exec .sync s = .next
      { s with st := .seekingSync, midx := false, chain := false, att := s.budget, cnt := 0, err := .none }

/-- `RECV` accepted (41_step_commands.md R142, R146): as `SYNC`, with `chain = 1`. -/
def Obligations.RecvStartsAChainedSearch : Prop :=
  ∀ s : State, s.busy = false →
    exec .recv s = .next
      { s with st := .seekingSync, midx := false, chain := true, att := s.budget, cnt := 0, err := .none }

/-- `READ` in `SYNCED` (41_step_commands.md R144): `chain`, `err`, and `begin_read()`. -/
def Obligations.ReadFromSyncedBeginsAFrameRead : Prop :=
  ∀ s : State, s.st = .synced →
    exec .read s = .next
      { s with
        chain := false, err := .none, ckA := 0, ckB := 0, cnt := 0, att := s.budget, st := .readingHeader }

/-- `READ` outside `SYNCED` (41_step_commands.md R145): `NOT_SYNCED` at once, no byte consumed, no other register
changed. -/
def Obligations.ReadOutsideSyncedFails : Prop :=
  ∀ s : State, s.st = .idle ∨ s.st = .done ∨ s.st = .failed →
    exec .read s = .next { s with chain := false, st := .failed, err := .notSynced }

/-! ## The sync search -/

/-- The state after exhaustion, if the attempt just charged was the last: `raise` writes `st` and `err` beside what the
rule of the response wrote (42_sync.md R165, 43_read_frame.md R190, 41_step_commands.md R150). -/
def Sys2Proof.Machine.exhaustedOr (k : Err) (t : State) : State :=
  if t.att = 0 then { t with st := .failed, err := k } else t

/-- An empty poll in the search (42_sync.md R160, R161, R165): one attempt, and `midx` as it was. -/
def Obligations.EmptyPollKeepsTheMatch : Prop :=
  ∀ s : State, s.st = .seekingSync → s.response = none →
    exec .none s = .next (exhaustedOr .syncTimeout { s with chan := s.chan.tail, att := s.att - 1 })

/-- The first marker byte (42_sync.md R160, R162, R165). -/
def Obligations.FirstMarkerByteAdvances : Prop :=
  ∀ (s : State) (rest : List (Option Byte)), s.st = .seekingSync → s.midx = false → s.chan = some 0xB5 :: rest →
    exec .syncByte0 s =
      .next (exhaustedOr .syncTimeout { s with chan := rest, att := s.att - 1, midx := true })

/-- The second marker byte (42_sync.md R160, R163, R166): `SYNCED` for `SYNC`; for `RECV` the frame read begins in the
same step, with a fresh budget. Success is tested before exhaustion, so no attempt count matters. -/
def Obligations.SecondMarkerByteFindsTheFrame : Prop :=
  ∀ (s : State) (rest : List (Option Byte)), s.st = .seekingSync → s.midx = true → s.chan = some 0x62 :: rest →
    exec .syncByte1 s = .next
      (if s.chain = true then
        { s with
          chan := rest, midx := false, ckA := 0, ckB := 0, cnt := 0, att := s.budget, st := .readingHeader }
      else { s with chan := rest, midx := false, att := s.att - 1, st := .synced })

/-- A mismatch (42_sync.md R160, R164, R165): the byte is discarded and the match index goes to 0, also for `B5` at
`midx = 1`. -/
def Obligations.MismatchDiscardsTheByte : Prop :=
  ∀ (s : State) (b : Byte) (rest : List (Option Byte)), s.st = .seekingSync → s.chan = some b :: rest →
    (s.midx = false ∧ b ≠ 0xB5) ∨ (s.midx = true ∧ b ≠ 0x62) →
    exec (.syncMismatch b) s =
      .next (exhaustedOr .syncTimeout { s with chan := rest, att := s.att - 1, midx := false })

/-- The byte events and the frame rows in a rest state: nothing is consumed, the bytes wait in the channel
(20_memory.md R61, R76). -/
def Obligations.BytesWaitWhileAtRest : Prop :=
  ∀ (i : Instr) (m : Bool) (s : State), s.busy = false → wellFormed (.marker m) i = true ∨ wellFormed .wire i = true →
    exec i s = .next (s.offer (encode i)) ∧
      ∀ rest, s.chan = (encode i).map some ++ rest → exec i s = .next s

/-- Which markers are found (42_sync.md R168, 70_reset_and_hazards.md R278): after a run of `k` bytes `B5` a byte `62`
completes a marker exactly when `k` is odd, that is when an even number of `B5` stands before the marker's own. -/
def Obligations.MarkerAfterARunIsFoundIffOdd : Prop :=
  ∀ (n k : Nat) (rest : List (Option Byte)), k < n →
    syncToFrame n false (List.replicate k (some 0xB5) ++ some 0x62 :: rest) =
      if k % 2 = 1 then (true, rest) else syncToFrame (n - (k + 1)) false rest

/-- The sync search computes `syncToFrame` (42_sync.md R167): from any rest state `SYNC` comes to rest in `SYNCED` or in
`FAILED` with `SYNC_TIMEOUT`, as the function says, the channel where the function leaves it, and the registers of the
last frame and the payload buffer as they were. The outcome is R35's `synced` or `failed(SYNC_TIMEOUT)` (10_state.md). -/
def Obligations.SearchComputesSyncToFrame : Prop :=
  ∀ s : State, 1 ≤ s.budget → s.busy = false →
    ∃ u t, exec .sync s = .next u ∧ awaitRest u = .next t ∧
      t.chan = (syncToFrame s.budget false s.chan).2 ∧
      (if (syncToFrame s.budget false s.chan).1 = true then t.st = .synced ∧ t.err = .none
        else t.st = .failed ∧ t.err = .syncTimeout ∧ t.att = 0) ∧
      endingOf t = some (if (syncToFrame s.budget false s.chan).1 = true then .synced else .failed .syncTimeout) ∧
      t = { s with
        st := t.st, err := t.err, midx := t.midx, att := t.att, cnt := 0, chain := false, chan := t.chan }

/-! ## The frame read -/

/-- The header bytes (43_read_frame.md R181 to R183, R190, R191). -/
def Obligations.HeaderBytesAreStored : Prop :=
  ∀ (s : State) (b : Byte) (rest : List (Option Byte)), s.st = .readingHeader → s.chan = some b :: rest →
    (s.cnt = 0 → exec .none s = .next (exhaustedOr .readTimeout
      { s with
        chan := rest, att := s.att - 1, cls := b, ckA := s.ckA + b, ckB := s.ckB + (s.ckA + b), cnt := 1 })) ∧
    (s.cnt = 1 → exec .none s = .next
      { s with
        chan := rest, att := s.budget, id := b, ckA := s.ckA + b, ckB := s.ckB + (s.ckA + b), cnt := 0,
        st := .readingLength })

/-- The length bytes (43_read_frame.md R181, R184 to R186, R190, R191): little-endian, and no payload phase for a zero
length. -/
def Obligations.LengthBytesAreAssembled : Prop :=
  ∀ (s : State) (b : Byte) (rest : List (Option Byte)), s.st = .readingLength → s.chan = some b :: rest →
    (s.cnt = 0 → exec .none s = .next (exhaustedOr .readTimeout
      { s with
        chan := rest, att := s.att - 1, len := b.setWidth 16, ckA := s.ckA + b, ckB := s.ckB + (s.ckA + b),
        cnt := 1 })) ∧
    (s.cnt = 1 → ∀ l : Half, l.toNat = s.len.toNat % 256 + 256 * b.toNat → exec .none s = .next
      { s with
        chan := rest, att := s.budget, len := l, ckA := s.ckA + b, ckB := s.ckB + (s.ckA + b), cnt := 0,
        st := if l = 0 then .readingChecksum else .readingPayload })

/-- A payload byte (43_read_frame.md R181, R187, R190, R191): stored at address `cnt`, every other cell as it was; the
phase is complete when `cnt + 1 = len`. -/
def Obligations.PayloadByteIsStored : Prop :=
  ∀ (s : State) (b : Byte) (rest : List (Option Byte)), s.st = .readingPayload → s.cnt.toNat < s.len.toNat →
    s.chan = some b :: rest →
    ∃ m : Memory, (∀ k, m.read k = if k = s.cnt.toNat then some b else s.pbuf.read k) ∧ (s.pbuf.wf → m.wf) ∧
      exec .none s = .next
        (if s.cnt.toNat + 1 = s.len.toNat then
          { s with
            chan := rest, pbuf := m, ckA := s.ckA + b, ckB := s.ckB + (s.ckA + b), cnt := 0, att := s.budget,
            st := .readingChecksum }
        else exhaustedOr .readTimeout
          { s with
            chan := rest, pbuf := m, ckA := s.ckA + b, ckB := s.ckB + (s.ckA + b), cnt := s.cnt + 1,
            att := s.att - 1 })

/-- The checksum bytes (43_read_frame.md R181, R188 to R190): the first is kept, the second ends the read, in `DONE` when
both are the computed ones and in `FAILED` otherwise; the accumulators do not take them in. -/
def Obligations.ChecksumBytesAreCompared : Prop :=
  ∀ (s : State) (b : Byte) (rest : List (Option Byte)), s.st = .readingChecksum → s.chan = some b :: rest →
    (s.cnt = 0 → exec .none s = .next (exhaustedOr .readTimeout
      { s with chan := rest, att := s.att - 1, rxA := b, cnt := 1 })) ∧
    (s.cnt = 1 → exec .none s = .next
      (if s.rxA = s.ckA ∧ b = s.ckB then
        { s with chan := rest, att := s.att - 1, rxB := b, cnt := 0, st := .done }
      else
        { s with
          chan := rest, att := s.att - 1, rxB := b, cnt := 0, st := .failed, err := .checksumMismatch }))

/-- An empty poll in a read phase (43_read_frame.md R181, R190): one attempt and nothing else. -/
def Obligations.EmptyPollWaitsInARead : Prop :=
  ∀ s : State,
    s.st = .readingHeader ∨ s.st = .readingLength ∨ s.st = .readingPayload ∨ s.st = .readingChecksum →
    s.response = none →
    exec .none s = .next (exhaustedOr .readTimeout { s with chan := s.chan.tail, att := s.att - 1 })

/-- Read timeout (43_read_frame.md R190, R191, 60_exceptions.md R244): a poll of a read phase ends in `READ_TIMEOUT`
exactly when it spends the last attempt and does not complete the phase. -/
def Obligations.TimeoutExactlyWhenExhausted : Prop :=
  ∀ s t : State, Inv s → s.st.reading = true → exec .none s = .next t →
    ((t.st = .failed ∧ t.err = .readTimeout) ↔
      s.att = 1 ∧
        ¬(∃ b, s.response = some b ∧
          (s.st = .readingPayload → s.cnt.toNat + 1 = s.len.toNat) ∧ (s.st ≠ .readingPayload → s.cnt = 1)))

/-- The frame read computes `readFrame` (43_read_frame.md R193): from `SYNCED`, `READ` comes to rest with the ending the
function gives, the channel where the function leaves it. -/
def Obligations.ReadComputesReadFrame : Prop :=
  ∀ s : State, 1 ≤ s.budget → s.st = .synced →
    ∃ u t, exec .read s = .next u ∧ awaitRest u = .next t ∧ t.busy = false ∧
      endingOf t = some (readFrame s.budget s.chan).1 ∧ t.chan = (readFrame s.budget s.chan).2

/-- `RECV` computes the search and then the frame read (43_read_frame.md R194), from any rest state. -/
def Obligations.RecvComputesRecvFrame : Prop :=
  ∀ s : State, 1 ≤ s.budget → s.busy = false →
    ∃ u t, exec .recv s = .next u ∧ awaitRest u = .next t ∧ t.busy = false ∧
      endingOf t = some (recvFrame s.budget s.chan).1 ∧ t.chan = (recvFrame s.budget s.chan).2

/-- `RECV` is `SYNC` and, if that ends in `SYNCED`, `READ` (41_step_commands.md R146): the same final state but for
`chain`. -/
def Obligations.RecvIsSyncThenRead : Prop :=
  ∀ s : State, 1 ≤ s.budget → s.busy = false →
    ∃ r t v w, exec .recv s = .next r ∧ awaitRest r = .next t ∧ exec .sync s = .next v ∧ awaitRest v = .next w ∧
      (if w.st = .synced then
        ∃ x y, exec .read w = .next x ∧ awaitRest x = .next y ∧ t = { y with chain := true }
      else t = { w with chain := true })

/-- Round trip (40_frame_checksum.md R129): the bytes of `serialize f`, with empty polls anywhere as long as no phase
runs out of budget, bring `RECV` to `DONE` with that frame, having consumed exactly those bytes. -/
def Obligations.SerializedFrameIsReceived : Prop :=
  ∀ (f : Frame) (s : State) (c0 c1 c2 c3 c4 rest : List (Option Byte)), f.fits = true → s.busy = false →
    delivers s.budget [0xB5, 0x62] c0 → delivers s.budget [f.cls, f.msgId] c1 →
    delivers s.budget [lowByte f.lenField, highByte f.lenField] c2 → delivers s.budget f.payload c3 →
    delivers s.budget [(frameCk f).1, (frameCk f).2] c4 → s.chan = c0 ++ c1 ++ c2 ++ c3 ++ c4 ++ rest →
    serialize f = (c0 ++ c1 ++ c2 ++ c3 ++ c4).filterMap (fun r => r) ∧
      ∃ u t, exec .recv s = .next u ∧ awaitRest u = .next t ∧ t.st = .done ∧ frameOf t = some f ∧ t.chan = rest

/-- A frame row (30_encoding.md R90, R96, 43_read_frame.md R193): with the whole frame in the channel and a budget it fits
in, a chained search takes all of it; the registers hold its fields, the payload cells its payload and the other cells what
they held, and the read ends by the checksum rule (40_frame_checksum.md R126). This is the completion of `FRAME`,
`NAV5_CFG`, `CFG_SAVE` and `ACK_ACK`. -/
def Obligations.FrameRowsReceiveTheWholeFrame : Prop :=
  ∀ (i : Instr) (c d a b : Byte) (l : Half) (payload : List Byte) (rest : List (Option Byte)) (s : State),
    frameHeader i = some (c, d, l) → payload.length = l.toNat →
    s.st = .seekingSync → s.midx = false → s.chain = true → 2 ≤ s.att → 2 ≤ s.budget → l.toNat ≤ s.budget →
    s.chan = (encode i ++ payload ++ [a, b]).map some ++ rest →
    ∃ (t : State) (m : Memory), exec i s = .next t ∧
      m.readFrom 0 l.toNat = some payload ∧ (∀ k, l.toNat ≤ k → m.read k = s.pbuf.read k) ∧
      t = { s with
        cls := c, id := d, len := l, rxA := a, rxB := b, chan := rest, att := s.budget - 2, cnt := 0, pbuf := m,
        ckA := (checksum (coveredBytes c d l payload)).1, ckB := (checksum (coveredBytes c d l payload)).2,
        st := if (a, b) = checksum (coveredBytes c d l payload) then .done else .failed,
        err := if (a, b) = checksum (coveredBytes c d l payload) then s.err else .checksumMismatch }

/-- The parser is generic in class and id (43_read_frame.md R197, 30_encoding.md R95): a known message is received as any
frame is. -/
def Obligations.KnownMessagesAreNotSpecial : Prop :=
  ∀ (c d : Byte) (l : Half) (s : State), exec (decodeHeader c d l) s = exec (.frame c d l) s

/-! ## Reset, waiting and ending -/

/-- `WAIT` (30_encoding.md R103) is a number of steps with `cmd = NONE`: the model's macro step adds nothing to the spec's
step function (notes/assumptions/4.md). -/
def Obligations.WaitIsIteratedNoneSteps : Prop :=
  ∀ (s t : State) (h : List HostAct), s.host = .wait :: h → step s = .next t →
    ∃ n, Host.Core.run Sys2Proof.core n
      ({ s with host := List.replicate n (.drive false 0 0) ++ h } : State) = .next t

/-- Termination (41_step_commands.md R152): every operation comes to rest, after at most as many polls as the phase has
attempts left and four phases more. -/
def Obligations.EveryOperationComesToRest : Prop :=
  ∀ s : State, Inv s →
    ∃ n t, n ≤ s.att + 4 * s.budget ∧ awaitRestWithin n s = .next t ∧ t.busy = false ∧ awaitRest s = .next t

/-! ## The whole machine -/

/-- Every transition of `st` (41_step_commands.md R151), with the failure code of the rows that fail. -/
def Obligations.TransitionsAreTheTable : Prop :=
  ∀ (s t : State) (rst : Bool) (c : BitVec 2) (a : Half) (h : List HostAct),
    s.host = .drive rst c a :: h → step s = .next t →
    (rst = true → t.st = .idle) ∧
    (rst = false →
      (s.busy = false → decodeCommand c = .none → t.st = s.st) ∧
      (s.busy = false → decodeCommand c = .sync ∨ decodeCommand c = .recv → t.st = .seekingSync) ∧
      (s.st = .synced → decodeCommand c = .read → t.st = .readingHeader) ∧
      (s.busy = false → s.st ≠ .synced → decodeCommand c = .read → t.st = .failed ∧ t.err = .notSynced) ∧
      (s.st = .seekingSync →
        if s.midx = true ∧ s.response = some 0x62 then t.st = if s.chain = true then .readingHeader else .synced
        else if s.att - 1 = 0 then t.st = .failed ∧ t.err = .syncTimeout else t.st = .seekingSync) ∧
      (s.st = .readingHeader →
        if s.response ≠ none ∧ s.cnt = 1 then t.st = .readingLength
        else if s.att - 1 = 0 then t.st = .failed ∧ t.err = .readTimeout else t.st = .readingHeader) ∧
      (s.st = .readingLength →
        if s.response ≠ none ∧ s.cnt = 1 then t.st = if t.len ≠ 0 then .readingPayload else .readingChecksum
        else if s.att - 1 = 0 then t.st = .failed ∧ t.err = .readTimeout else t.st = .readingLength) ∧
      (s.st = .readingPayload →
        if s.response ≠ none ∧ s.cnt.toNat + 1 = s.len.toNat then t.st = .readingChecksum
        else if s.att - 1 = 0 then t.st = .failed ∧ t.err = .readTimeout else t.st = .readingPayload) ∧
      (s.st = .readingChecksum →
        if s.response ≠ none ∧ s.cnt = 1 then
          if s.rxA = s.ckA ∧ s.response = some s.ckB then t.st = .done
          else t.st = .failed ∧ t.err = .checksumMismatch
        else if s.att - 1 = 0 then t.st = .failed ∧ t.err = .readTimeout else t.st = .readingChecksum))

/-- The polls (20_memory.md R61, R62): a busy step without reset polls once and takes the head of the channel; no other
step takes anything; a channel that has run out answers `none`. -/
def Obligations.PollsTakeTheChannelInOrder : Prop :=
  ∀ (s t : State) (rst : Bool) (c : BitVec 2) (a : Half) (h : List HostAct),
    s.host = .drive rst c a :: h → step s = .next t →
    s.rxReadyNow = (s.busy && !rst) ∧ t.chan = (if s.rxReadyNow = true then s.chan.tail else s.chan) ∧
      (s.chan = [] → s.response = none) ∧ (∀ r rest, s.chan = r :: rest → s.response = r)

/-- Only payload bytes are written to the buffer, each at its index (10_state.md R31, 20_memory.md R64); every other cell
reads as before, after every step, a reset step included. -/
def Obligations.OnlyPayloadBytesWriteTheBuffer : Prop :=
  ∀ (s t : State) (rst : Bool) (c : BitVec 2) (a : Half) (h : List HostAct),
    s.host = .drive rst c a :: h → step s = .next t →
    ∀ k, t.pbuf.read k =
      if rst = false ∧ s.st = .readingPayload ∧ s.response ≠ none ∧ k = s.cnt.toNat then s.response
      else s.pbuf.read k

/-- Who writes each register (10_state.md R20, R22 to R30): a register that changes in a step does so in one of the steps
named here. A reset step writes all of them. -/
def Obligations.RegistersHaveTheirWriters : Prop :=
  ∀ (s t : State) (c : BitVec 2) (a : Half) (h : List HostAct),
    s.host = .drive false c a :: h → step s = .next t →
    (t.chain ≠ s.chain → s.busy = false ∧ c ≠ 0) ∧
    (t.midx ≠ s.midx → s.st = .seekingSync ∨ (s.busy = false ∧ t.st = .seekingSync)) ∧
    (t.att ≠ s.att → s.busy = true ∨ t.busy = true) ∧
    (t.cnt ≠ s.cnt → s.busy = true ∨ t.busy = true) ∧
    (t.cls ≠ s.cls → s.st = .readingHeader ∧ s.cnt = 0 ∧ s.response = some t.cls) ∧
    (t.id ≠ s.id → s.st = .readingHeader ∧ s.cnt = 1 ∧ s.response = some t.id) ∧
    (t.len ≠ s.len → s.st = .readingLength ∧ s.response ≠ none) ∧
    ((t.ckA ≠ s.ckA ∨ t.ckB ≠ s.ckB) →
      (t.st = .readingHeader ∧ (s.st = .synced ∨ s.st = .seekingSync) ∧ t.ckA = 0 ∧ t.ckB = 0) ∨
      ((s.st = .readingHeader ∨ s.st = .readingLength ∨ s.st = .readingPayload) ∧
        ∃ b, s.response = some b ∧ t.ckA = s.ckA + b ∧ t.ckB = s.ckB + t.ckA)) ∧
    (t.rxA ≠ s.rxA → s.st = .readingChecksum ∧ s.cnt = 0 ∧ s.response = some t.rxA) ∧
    (t.rxB ≠ s.rxB → s.st = .readingChecksum ∧ s.cnt = 1 ∧ s.response = some t.rxB) ∧
    (t.err ≠ s.err → (s.busy = false ∧ c ≠ 0) ∨ t.st = .failed) ∧
    t.budget = s.budget ∧ t.host = h

/-! ## Checksum and serialisation -/

/-- `ck_update` (40_frame_checksum.md R122): two additions modulo 256, the NEW `ckA` going into `ckB`; nothing else is
written. -/
def Obligations.CkUpdateAddsTheNewA : Prop :=
  ∀ (b : Byte) (s : State),
    (ckUpdate b s).ckA.toNat = (s.ckA.toNat + b.toNat) % 256 ∧
    (ckUpdate b s).ckB.toNat = (s.ckB.toNat + (ckUpdate b s).ckA.toNat) % 256 ∧
    { ckUpdate b s with ckA := s.ckA, ckB := s.ckB } = s

/-- Closed form of the checksum (40_frame_checksum.md R124): byte `i` has weight 1 in A and `n - i` in B. -/
def Obligations.ChecksumClosedForm : Prop :=
  ∀ bs : List Byte,
    (checksum bs).1.toNat = (bs.map BitVec.toNat).sum % 256 ∧
    (checksum bs).2.toNat = (bs.zipIdx.map (fun p => (bs.length - p.2) * p.1.toNat)).sum % 256

/-- `serialize` is injective on frames that fit their length field (40_frame_checksum.md R128), and has `8 + L` bytes
(R127, 30_encoding.md R93). -/
def Obligations.SerializeIsInjective : Prop :=
  (∀ f g : Frame, f.fits = true → g.fits = true → serialize f = serialize g → f = g) ∧
  ∀ f : Frame, (serialize f).length = 8 + f.payload.length

/-- Error detection (40_frame_checksum.md R130 (a), (b)): a frame with one bit of class, id or payload flipped but the
checksum of the original, or with any wrong checksum bytes, ends in `CHECKSUM_MISMATCH`. -/
def Obligations.SingleBitErrorsAreRejected : Prop :=
  ∀ (f g : Frame) (a b : Byte) (s : State) (rest : List (Option Byte)), g.fits = true → s.busy = false →
    2 ≤ s.budget → g.payload.length ≤ s.budget →
    (oneBitFlipped f g ∧ (a, b) = frameCk f) ∨ (a, b) ≠ frameCk g →
    s.chan = (headerBytes g.cls g.msgId g.lenField ++ g.payload ++ [a, b]).map some ++ rest →
    ∃ u t, exec .recv s = .next u ∧ awaitRest u = .next t ∧ t.st = .failed ∧ t.err = .checksumMismatch ∧
      t.chan = rest

/-! ## The host's view -/

/-- The status outputs (10_state.md R32): functions of `st`, in every step; after reset all 0 but `cmd_ready`. -/
def Obligations.FlagsFollowTheState : Prop :=
  (∀ s : State,
    (s.busy = true ↔ s.st = .seekingSync ∨ s.st = .readingHeader ∨ s.st = .readingLength ∨ s.st = .readingPayload ∨
      s.st = .readingChecksum) ∧
    (s.cmdReady = true ↔ s.st = .idle ∨ s.st = .synced ∨ s.st = .done ∨ s.st = .failed) ∧
    (s.synced = true ↔ s.st = .synced) ∧ (s.done = true ↔ s.st = .done) ∧ (s.failed = true ↔ s.st = .failed) ∧
    s.rxReady = s.busy) ∧
  State.reset.busy = false ∧ State.reset.cmdReady = true ∧ State.reset.rxReady = false ∧
  State.reset.synced = false ∧ State.reset.done = false ∧ State.reset.failed = false

/-- The port map (10_state.md R34): the layout of each port, and the refusal of a read outside its "specified when"
condition. That a payload cell below `len` without a value is refused, by the name `cellUnwritten`, is the model's choice
between the fault and the refusal that 10_state.md R31 allows (notes/assumptions/9.md, 10.md). -/
def Obligations.PortsReadAsMapped : Prop :=
  ∀ (s : State) (a : Half),
    (∃ v : Byte, readPort .status a s = .ok v ∧ v.extractLsb' 0 4 = s.st.code ∧ v.getLsbD 4 = s.busy ∧
      v.getLsbD 5 = s.synced ∧ v.getLsbD 6 = s.done ∧ v.getLsbD 7 = s.failed) ∧
    readPort .err a s = .ok s.err.code ∧
    readPort .cmdReady a s = .ok (BitVec.ofBool s.cmdReady) ∧ readPort .rxReady a s = .ok (BitVec.ofBool s.rxReady) ∧
    (s.st = .done →
      readPort .cls a s = .ok s.cls ∧ readPort .id a s = .ok s.id ∧ readPort .len a s = .ok s.len ∧
      (∃ v : Half, readPort .cksum a s = .ok v ∧ v.extractLsb' 0 8 = s.rxA ∧ v.extractLsb' 8 8 = s.rxB) ∧
      (a.toNat < s.len.toNat →
        (∀ b, s.pbuf.read a.toNat = some b → readPort .pdata a s = .ok b) ∧
        (s.pbuf.read a.toNat = none → readPort .pdata a s = .error .cellUnwritten)) ∧
      (s.len.toNat ≤ a.toNat → readPort .pdata a s = .error .portUnspecified)) ∧
    (s.st ≠ .done →
      readPort .cls a s = .error .portUnspecified ∧ readPort .id a s = .error .portUnspecified ∧
      readPort .len a s = .error .portUnspecified ∧ readPort .cksum a s = .error .portUnspecified ∧
      readPort .pdata a s = .error .portUnspecified) ∧
    (List.range 7).map HostPort.ofNumber =
      [some .status, some .err, some .cls, some .id, some .len, some .cksum, some .pdata] ∧
    [HostPort.status, .err, .cls, .id, .len, .cksum, .pdata, .cmdReady, .rxReady].map HostPort.width =
      [8, 3, 8, 8, 16, 16, 8, 1, 1]

/-- What a host can see (10_state.md R34, D14): two states with the same `st` and `err` and, in `DONE`,
the same frame registers and payload cells below `len` answer every port read alike: no hidden register shows. -/
def Obligations.HiddenRegistersDoNotShow : Prop :=
  ∀ s s' : State, s.st = s'.st → s.err = s'.err →
    (s.st = .done → s.cls = s'.cls ∧ s.id = s'.id ∧ s.len = s'.len ∧ s.rxA = s'.rxA ∧ s.rxB = s'.rxB ∧
      ∀ k < s.len.toNat, s.pbuf.read k = s'.pbuf.read k) →
    ∀ (p : HostPort) (a : Half), readPort p a s = readPort p a s'

/-- `DONE` gives the frame to the host (10_state.md R35, R36 item 7, 20_memory.md R71, 40_frame_checksum.md R126): in every
state of the invariant the observation is a frame whose checksum is the received one, and `PDATA` reads its payload byte by
byte; outside `DONE` there is none. -/
def Obligations.DoneShowsAValidFrame : Prop :=
  ∀ s : State, Inv s →
    (s.st ≠ .done → frameOf s = none) ∧
    (s.st = .done → ∃ f : Frame, frameOf s = some f ∧ f.cls = s.cls ∧ f.msgId = s.id ∧
      f.payload.length = s.len.toNat ∧ frameCk f = (s.rxA, s.rxB) ∧
      ∀ a : Half, a.toNat < s.len.toNat →
        ∃ b, f.payload[a.toNat]? = some b ∧ readPort .pdata a s = .ok b)
end

