-- ==== Sys2Proof/Laws/Memory.lean ====
section
/-! SUPPORT. The laws of the payload buffer: a read after a write, the other cells, and the canonical form. -/

namespace Sys2Proof.Machine.Laws

theorem read_write_same (m : Memory) (a : Nat) (v : Byte) : (m.write a v).read a = some v := by
  induction m with
  | nil => simp [Memory.write, Memory.read]
  | cons c m ih =>
    obtain ⟨k, w⟩ := c
    simp only [Memory.write]
    split
    · simp [Memory.read]
    · split
      · simp [Memory.read]
      · have : k ≠ a := by omega
        simp [Memory.read, this, ih]

theorem read_write_other (m : Memory) (a k : Nat) (v : Byte) (h : k ≠ a) : (m.write a v).read k = m.read k := by
  induction m with
  | nil => simp [Memory.write, Memory.read, h.symm]
  | cons c m ih =>
    obtain ⟨j, w⟩ := c
    simp only [Memory.write]
    split
    · simp [Memory.read, h.symm]
    · split
      · have : j ≠ k := by omega
        simp [Memory.read, h.symm, this]
      · simp [Memory.read, ih]

theorem read_write (m : Memory) (a k : Nat) (v : Byte) :
    (m.write a v).read k = if k = a then some v else m.read k := by
  split
  · next h => rw [h, read_write_same]
  · next h => exact read_write_other m a k v h

theorem mem_write {m : Memory} {a : Nat} {v : Byte} {c : Host.Cell} (h : c ∈ m.write a v) : c = (a, v) ∨ c ∈ m := by
  induction m with
  | nil => simpa [Memory.write] using h
  | cons x m ih =>
    obtain ⟨k, w⟩ := x
    simp only [Memory.write] at h
    split at h
    · simpa using h
    · split at h
      · rcases List.mem_cons.1 h with h | h
        · exact .inl h
        · exact .inr (List.mem_cons_of_mem _ h)
      · rcases List.mem_cons.1 h with h | h
        · exact .inr (h ▸ List.mem_cons_self)
        · exact (ih h).imp id (List.mem_cons_of_mem _)

/-- A write at an address that exists keeps the canonical form. -/
theorem write_wf {m : Memory} (hm : m.wf) {a : Nat} (ha : a < Config.PBUF_SIZE) (v : Byte) : (m.write a v).wf := by
  refine ⟨?_, fun c hc => (mem_write hc).elim (fun h => h ▸ ha) (hm.2 c)⟩
  have h := hm.1
  clear hm
  induction m with
  | nil => simp [Memory.write]
  | cons x m ih =>
    obtain ⟨k, w⟩ := x
    rw [List.pairwise_cons] at h
    simp only [Memory.write]
    split
    · next hk =>
      refine List.pairwise_cons.2 ⟨fun c hc => ?_, List.pairwise_cons.2 h⟩
      rcases List.mem_cons.1 hc with hc | hc
      · exact hc ▸ hk
      · exact lt_trans hk (h.1 c hc)
    · split
      · next hk => exact List.pairwise_cons.2 ⟨fun c hc => hk ▸ h.1 c hc, h.2⟩
      · next h1 h2 =>
        refine List.pairwise_cons.2 ⟨fun c hc => ?_, ih h.2⟩
        rcases mem_write hc with hc | hc
        · subst hc
          show k < a
          omega
        · exact h.1 c hc

theorem reset_buffer_wf : State.reset.pbuf.wf := by decide

/-- All that `memWrite` can do. -/
theorem memWrite_next {a : Nat} {v : Byte} {s t : State} (h : memWrite a v s = .next t) :
    a < Config.PBUF_SIZE ∧ t = storeCell a v s := by
  unfold memWrite at h
  split at h
  · next ha => exact ⟨ha, by cases h; rfl⟩
  · cases h

theorem memWrite_of_lt {a : Nat} (ha : a < Config.PBUF_SIZE) (v : Byte) (s : State) :
    memWrite a v s = .next (storeCell a v s) := if_pos ha

/-- A block of cells reads as before when no cell of it is written. -/
theorem readFrom_write_outside (m : Memory) (k : Nat) (v : Byte) (a n : Nat) (h : k < a ∨ a + n ≤ k) :
    (m.write k v).readFrom a n = m.readFrom a n := by
  induction n generalizing a with
  | zero => rfl
  | succ n ih =>
    have hne : a ≠ k := by omega
    simp only [Memory.readFrom, read_write_other m k a v hne, ih (a + 1) (by omega)]

/-- A block of cells and the one after it. -/
theorem readFrom_snoc (m : Memory) (a n : Nat) :
    m.readFrom a (n + 1) = (m.readFrom a n).bind (fun bs => (m.read (a + n)).map (fun b => bs ++ [b])) := by
  induction n generalizing a with
  | zero => cases h : m.read a <;> simp [Memory.readFrom, h]
  | succ n ih =>
    rw [Memory.readFrom, ih (a + 1), Memory.readFrom]
    have e : a + 1 + n = a + (n + 1) := by omega
    rw [e]
    cases h1 : m.read a <;> cases h2 : m.readFrom (a + 1) n <;> cases h3 : m.read (a + (n + 1)) <;> simp

/-- Writing the cell after a block extends the block by the byte written. -/
theorem readFrom_write_next (m : Memory) (a n : Nat) (v : Byte) (bs : List Byte) (h : m.readFrom a n = some bs) :
    (m.write (a + n) v).readFrom a (n + 1) = some (bs ++ [v]) := by
  rw [readFrom_snoc, readFrom_write_outside m (a + n) v a n (.inr (le_refl _)), h]
  simp [read_write_same]

theorem readFrom_length {m : Memory} {a n : Nat} {bs : List Byte} (h : m.readFrom a n = some bs) : bs.length = n := by
  induction n generalizing a bs with
  | zero => cases h; rfl
  | succ n ih =>
    rw [Memory.readFrom] at h
    split at h
    · next hb => cases h; simp [ih hb]
    · cases h
    · cases h

/-- The bytes of a block, one by one. -/
theorem readFrom_getElem? {m : Memory} {a n : Nat} {bs : List Byte} (h : m.readFrom a n = some bs) {k : Nat}
    (hk : k < n) : m.read (a + k) = bs[k]? := by
  induction n generalizing a bs k with
  | zero => omega
  | succ n ih =>
    rw [Memory.readFrom] at h
    split at h
    · next b bs' hb hbs =>
      cases h
      cases k with
      | zero => simpa using hb
      | succ k =>
        have := ih hbs (k := k) (by omega)
        rw [show a + (k + 1) = a + 1 + k by omega, this]
        simp
    · cases h
    · cases h

end Sys2Proof.Machine.Laws
end

