-- ==== Sys2Proof/Laws/PerInstr.lean ====
section
/-! SUPPORT. Statements for all instructions, one lemma for each constructor. -/

namespace Sys2Proof.Laws.EncodeSize

/-- A frame row is written with six bytes, any other instruction with one (30_encoding.md R97, R98, R102). -/
def Statement (i : Instr) : Prop := (encode i).length = if (frameHeader i).isSome then 6 else 1

theorem none : Statement .none := rfl
theorem sync : Statement .sync := rfl
theorem read : Statement .read := rfl
theorem recv : Statement .recv := rfl
theorem syncByte0 : Statement .syncByte0 := rfl
theorem syncByte1 : Statement .syncByte1 := rfl
theorem syncMismatch (b : Byte) : Statement (.syncMismatch b) := rfl
theorem frame (cls msgId : Byte) (len : Half) : Statement (.frame cls msgId len) := rfl
theorem nav5Cfg (len : Half) : Statement (.nav5Cfg len) := rfl
theorem cfgSave : Statement .cfgSave := rfl
theorem ackAck : Statement .ackAck := rfl

end Sys2Proof.Laws.EncodeSize
end

