-- ==== Sys2Proof/Laws/State.lean ====
section
/-! SUPPORT. The small lemmas of the state updates: one for each field and each update, true by `rfl`, so that no later
proof unfolds a record update. -/

namespace Sys2Proof.Machine.Laws

/-! ## `popChan` -/

@[simp] theorem popChan_st (s : State) : s.popChan.st = s.st := rfl
@[simp] theorem popChan_midx (s : State) : s.popChan.midx = s.midx := rfl
@[simp] theorem popChan_chain (s : State) : s.popChan.chain = s.chain := rfl
@[simp] theorem popChan_att (s : State) : s.popChan.att = s.att := rfl
@[simp] theorem popChan_cnt (s : State) : s.popChan.cnt = s.cnt := rfl
@[simp] theorem popChan_cls (s : State) : s.popChan.cls = s.cls := rfl
@[simp] theorem popChan_id (s : State) : s.popChan.id = s.id := rfl
@[simp] theorem popChan_len (s : State) : s.popChan.len = s.len := rfl
@[simp] theorem popChan_ckA (s : State) : s.popChan.ckA = s.ckA := rfl
@[simp] theorem popChan_ckB (s : State) : s.popChan.ckB = s.ckB := rfl
@[simp] theorem popChan_rxA (s : State) : s.popChan.rxA = s.rxA := rfl
@[simp] theorem popChan_rxB (s : State) : s.popChan.rxB = s.rxB := rfl
@[simp] theorem popChan_err (s : State) : s.popChan.err = s.err := rfl
@[simp] theorem popChan_pbuf (s : State) : s.popChan.pbuf = s.pbuf := rfl
@[simp] theorem popChan_budget (s : State) : s.popChan.budget = s.budget := rfl
@[simp] theorem popChan_chan (s : State) : s.popChan.chan = s.chan.tail := rfl
@[simp] theorem popChan_host (s : State) : s.popChan.host = s.host := rfl

/-! ## `popHost` -/

@[simp] theorem popHost_st (s : State) : s.popHost.st = s.st := rfl
@[simp] theorem popHost_midx (s : State) : s.popHost.midx = s.midx := rfl
@[simp] theorem popHost_chain (s : State) : s.popHost.chain = s.chain := rfl
@[simp] theorem popHost_att (s : State) : s.popHost.att = s.att := rfl
@[simp] theorem popHost_cnt (s : State) : s.popHost.cnt = s.cnt := rfl
@[simp] theorem popHost_cls (s : State) : s.popHost.cls = s.cls := rfl
@[simp] theorem popHost_id (s : State) : s.popHost.id = s.id := rfl
@[simp] theorem popHost_len (s : State) : s.popHost.len = s.len := rfl
@[simp] theorem popHost_ckA (s : State) : s.popHost.ckA = s.ckA := rfl
@[simp] theorem popHost_ckB (s : State) : s.popHost.ckB = s.ckB := rfl
@[simp] theorem popHost_rxA (s : State) : s.popHost.rxA = s.rxA := rfl
@[simp] theorem popHost_rxB (s : State) : s.popHost.rxB = s.rxB := rfl
@[simp] theorem popHost_err (s : State) : s.popHost.err = s.err := rfl
@[simp] theorem popHost_pbuf (s : State) : s.popHost.pbuf = s.pbuf := rfl
@[simp] theorem popHost_budget (s : State) : s.popHost.budget = s.budget := rfl
@[simp] theorem popHost_chan (s : State) : s.popHost.chan = s.chan := rfl
@[simp] theorem popHost_host (s : State) : s.popHost.host = s.host.tail := rfl

/-! ## `offer` -/

@[simp] theorem offer_st (bs : List Byte) (s : State) : (s.offer bs).st = s.st := rfl
@[simp] theorem offer_midx (bs : List Byte) (s : State) : (s.offer bs).midx = s.midx := rfl
@[simp] theorem offer_chain (bs : List Byte) (s : State) : (s.offer bs).chain = s.chain := rfl
@[simp] theorem offer_att (bs : List Byte) (s : State) : (s.offer bs).att = s.att := rfl
@[simp] theorem offer_cnt (bs : List Byte) (s : State) : (s.offer bs).cnt = s.cnt := rfl
@[simp] theorem offer_cls (bs : List Byte) (s : State) : (s.offer bs).cls = s.cls := rfl
@[simp] theorem offer_id (bs : List Byte) (s : State) : (s.offer bs).id = s.id := rfl
@[simp] theorem offer_len (bs : List Byte) (s : State) : (s.offer bs).len = s.len := rfl
@[simp] theorem offer_ckA (bs : List Byte) (s : State) : (s.offer bs).ckA = s.ckA := rfl
@[simp] theorem offer_ckB (bs : List Byte) (s : State) : (s.offer bs).ckB = s.ckB := rfl
@[simp] theorem offer_rxA (bs : List Byte) (s : State) : (s.offer bs).rxA = s.rxA := rfl
@[simp] theorem offer_rxB (bs : List Byte) (s : State) : (s.offer bs).rxB = s.rxB := rfl
@[simp] theorem offer_err (bs : List Byte) (s : State) : (s.offer bs).err = s.err := rfl
@[simp] theorem offer_pbuf (bs : List Byte) (s : State) : (s.offer bs).pbuf = s.pbuf := rfl
@[simp] theorem offer_budget (bs : List Byte) (s : State) : (s.offer bs).budget = s.budget := rfl
@[simp] theorem offer_chan (bs : List Byte) (s : State) : (s.offer bs).chan = bs.map some ++ s.chan.drop bs.length := rfl
@[simp] theorem offer_host (bs : List Byte) (s : State) : (s.offer bs).host = s.host := rfl

/-! ## `charge` -/

@[simp] theorem charge_st (s : State) : (charge s).st = s.st := rfl
@[simp] theorem charge_midx (s : State) : (charge s).midx = s.midx := rfl
@[simp] theorem charge_chain (s : State) : (charge s).chain = s.chain := rfl
@[simp] theorem charge_att (s : State) : (charge s).att = s.att - 1 := rfl
@[simp] theorem charge_cnt (s : State) : (charge s).cnt = s.cnt := rfl
@[simp] theorem charge_cls (s : State) : (charge s).cls = s.cls := rfl
@[simp] theorem charge_id (s : State) : (charge s).id = s.id := rfl
@[simp] theorem charge_len (s : State) : (charge s).len = s.len := rfl
@[simp] theorem charge_ckA (s : State) : (charge s).ckA = s.ckA := rfl
@[simp] theorem charge_ckB (s : State) : (charge s).ckB = s.ckB := rfl
@[simp] theorem charge_rxA (s : State) : (charge s).rxA = s.rxA := rfl
@[simp] theorem charge_rxB (s : State) : (charge s).rxB = s.rxB := rfl
@[simp] theorem charge_err (s : State) : (charge s).err = s.err := rfl
@[simp] theorem charge_pbuf (s : State) : (charge s).pbuf = s.pbuf := rfl
@[simp] theorem charge_budget (s : State) : (charge s).budget = s.budget := rfl
@[simp] theorem charge_chan (s : State) : (charge s).chan = s.chan := rfl
@[simp] theorem charge_host (s : State) : (charge s).host = s.host := rfl

/-! ## `polled` -/

@[simp] theorem polled_st (s : State) : (polled s).st = s.st := rfl
@[simp] theorem polled_midx (s : State) : (polled s).midx = s.midx := rfl
@[simp] theorem polled_chain (s : State) : (polled s).chain = s.chain := rfl
@[simp] theorem polled_att (s : State) : (polled s).att = s.att - 1 := rfl
@[simp] theorem polled_cnt (s : State) : (polled s).cnt = s.cnt := rfl
@[simp] theorem polled_cls (s : State) : (polled s).cls = s.cls := rfl
@[simp] theorem polled_id (s : State) : (polled s).id = s.id := rfl
@[simp] theorem polled_len (s : State) : (polled s).len = s.len := rfl
@[simp] theorem polled_ckA (s : State) : (polled s).ckA = s.ckA := rfl
@[simp] theorem polled_ckB (s : State) : (polled s).ckB = s.ckB := rfl
@[simp] theorem polled_rxA (s : State) : (polled s).rxA = s.rxA := rfl
@[simp] theorem polled_rxB (s : State) : (polled s).rxB = s.rxB := rfl
@[simp] theorem polled_err (s : State) : (polled s).err = s.err := rfl
@[simp] theorem polled_pbuf (s : State) : (polled s).pbuf = s.pbuf := rfl
@[simp] theorem polled_budget (s : State) : (polled s).budget = s.budget := rfl
@[simp] theorem polled_chan (s : State) : (polled s).chan = s.chan.tail := rfl
@[simp] theorem polled_host (s : State) : (polled s).host = s.host := rfl

/-! ## `ckUpdate` -/

@[simp] theorem ckUpdate_st (b : Byte) (s : State) : (ckUpdate b s).st = s.st := rfl
@[simp] theorem ckUpdate_midx (b : Byte) (s : State) : (ckUpdate b s).midx = s.midx := rfl
@[simp] theorem ckUpdate_chain (b : Byte) (s : State) : (ckUpdate b s).chain = s.chain := rfl
@[simp] theorem ckUpdate_att (b : Byte) (s : State) : (ckUpdate b s).att = s.att := rfl
@[simp] theorem ckUpdate_cnt (b : Byte) (s : State) : (ckUpdate b s).cnt = s.cnt := rfl
@[simp] theorem ckUpdate_cls (b : Byte) (s : State) : (ckUpdate b s).cls = s.cls := rfl
@[simp] theorem ckUpdate_id (b : Byte) (s : State) : (ckUpdate b s).id = s.id := rfl
@[simp] theorem ckUpdate_len (b : Byte) (s : State) : (ckUpdate b s).len = s.len := rfl
@[simp] theorem ckUpdate_ckA (b : Byte) (s : State) : (ckUpdate b s).ckA = s.ckA + b := rfl
@[simp] theorem ckUpdate_ckB (b : Byte) (s : State) : (ckUpdate b s).ckB = s.ckB + (s.ckA + b) := rfl
@[simp] theorem ckUpdate_rxA (b : Byte) (s : State) : (ckUpdate b s).rxA = s.rxA := rfl
@[simp] theorem ckUpdate_rxB (b : Byte) (s : State) : (ckUpdate b s).rxB = s.rxB := rfl
@[simp] theorem ckUpdate_err (b : Byte) (s : State) : (ckUpdate b s).err = s.err := rfl
@[simp] theorem ckUpdate_pbuf (b : Byte) (s : State) : (ckUpdate b s).pbuf = s.pbuf := rfl
@[simp] theorem ckUpdate_budget (b : Byte) (s : State) : (ckUpdate b s).budget = s.budget := rfl
@[simp] theorem ckUpdate_chan (b : Byte) (s : State) : (ckUpdate b s).chan = s.chan := rfl
@[simp] theorem ckUpdate_host (b : Byte) (s : State) : (ckUpdate b s).host = s.host := rfl

/-! ## `beginRead` -/

@[simp] theorem beginRead_st (s : State) : (beginRead s).st = .readingHeader := rfl
@[simp] theorem beginRead_midx (s : State) : (beginRead s).midx = s.midx := rfl
@[simp] theorem beginRead_chain (s : State) : (beginRead s).chain = s.chain := rfl
@[simp] theorem beginRead_att (s : State) : (beginRead s).att = s.budget := rfl
@[simp] theorem beginRead_cnt (s : State) : (beginRead s).cnt = 0 := rfl
@[simp] theorem beginRead_cls (s : State) : (beginRead s).cls = s.cls := rfl
@[simp] theorem beginRead_id (s : State) : (beginRead s).id = s.id := rfl
@[simp] theorem beginRead_len (s : State) : (beginRead s).len = s.len := rfl
@[simp] theorem beginRead_ckA (s : State) : (beginRead s).ckA = 0 := rfl
@[simp] theorem beginRead_ckB (s : State) : (beginRead s).ckB = 0 := rfl
@[simp] theorem beginRead_rxA (s : State) : (beginRead s).rxA = s.rxA := rfl
@[simp] theorem beginRead_rxB (s : State) : (beginRead s).rxB = s.rxB := rfl
@[simp] theorem beginRead_err (s : State) : (beginRead s).err = s.err := rfl
@[simp] theorem beginRead_pbuf (s : State) : (beginRead s).pbuf = s.pbuf := rfl
@[simp] theorem beginRead_budget (s : State) : (beginRead s).budget = s.budget := rfl
@[simp] theorem beginRead_chan (s : State) : (beginRead s).chan = s.chan := rfl
@[simp] theorem beginRead_host (s : State) : (beginRead s).host = s.host := rfl

/-! ## `nextPhase` -/

@[simp] theorem nextPhase_st (p : St) (s : State) : (nextPhase p s).st = p := rfl
@[simp] theorem nextPhase_midx (p : St) (s : State) : (nextPhase p s).midx = s.midx := rfl
@[simp] theorem nextPhase_chain (p : St) (s : State) : (nextPhase p s).chain = s.chain := rfl
@[simp] theorem nextPhase_att (p : St) (s : State) : (nextPhase p s).att = s.budget := rfl
@[simp] theorem nextPhase_cnt (p : St) (s : State) : (nextPhase p s).cnt = 0 := rfl
@[simp] theorem nextPhase_cls (p : St) (s : State) : (nextPhase p s).cls = s.cls := rfl
@[simp] theorem nextPhase_id (p : St) (s : State) : (nextPhase p s).id = s.id := rfl
@[simp] theorem nextPhase_len (p : St) (s : State) : (nextPhase p s).len = s.len := rfl
@[simp] theorem nextPhase_ckA (p : St) (s : State) : (nextPhase p s).ckA = s.ckA := rfl
@[simp] theorem nextPhase_ckB (p : St) (s : State) : (nextPhase p s).ckB = s.ckB := rfl
@[simp] theorem nextPhase_rxA (p : St) (s : State) : (nextPhase p s).rxA = s.rxA := rfl
@[simp] theorem nextPhase_rxB (p : St) (s : State) : (nextPhase p s).rxB = s.rxB := rfl
@[simp] theorem nextPhase_err (p : St) (s : State) : (nextPhase p s).err = s.err := rfl
@[simp] theorem nextPhase_pbuf (p : St) (s : State) : (nextPhase p s).pbuf = s.pbuf := rfl
@[simp] theorem nextPhase_budget (p : St) (s : State) : (nextPhase p s).budget = s.budget := rfl
@[simp] theorem nextPhase_chan (p : St) (s : State) : (nextPhase p s).chan = s.chan := rfl
@[simp] theorem nextPhase_host (p : St) (s : State) : (nextPhase p s).host = s.host := rfl

/-! ## `startSearch` -/

@[simp] theorem startSearch_st (c : Bool) (s : State) : (startSearch c s).st = .seekingSync := rfl
@[simp] theorem startSearch_midx (c : Bool) (s : State) : (startSearch c s).midx = false := rfl
@[simp] theorem startSearch_chain (c : Bool) (s : State) : (startSearch c s).chain = c := rfl
@[simp] theorem startSearch_att (c : Bool) (s : State) : (startSearch c s).att = s.budget := rfl
@[simp] theorem startSearch_cnt (c : Bool) (s : State) : (startSearch c s).cnt = 0 := rfl
@[simp] theorem startSearch_cls (c : Bool) (s : State) : (startSearch c s).cls = s.cls := rfl
@[simp] theorem startSearch_id (c : Bool) (s : State) : (startSearch c s).id = s.id := rfl
@[simp] theorem startSearch_len (c : Bool) (s : State) : (startSearch c s).len = s.len := rfl
@[simp] theorem startSearch_ckA (c : Bool) (s : State) : (startSearch c s).ckA = s.ckA := rfl
@[simp] theorem startSearch_ckB (c : Bool) (s : State) : (startSearch c s).ckB = s.ckB := rfl
@[simp] theorem startSearch_rxA (c : Bool) (s : State) : (startSearch c s).rxA = s.rxA := rfl
@[simp] theorem startSearch_rxB (c : Bool) (s : State) : (startSearch c s).rxB = s.rxB := rfl
@[simp] theorem startSearch_err (c : Bool) (s : State) : (startSearch c s).err = .none := rfl
@[simp] theorem startSearch_pbuf (c : Bool) (s : State) : (startSearch c s).pbuf = s.pbuf := rfl
@[simp] theorem startSearch_budget (c : Bool) (s : State) : (startSearch c s).budget = s.budget := rfl
@[simp] theorem startSearch_chan (c : Bool) (s : State) : (startSearch c s).chan = s.chan := rfl
@[simp] theorem startSearch_host (c : Bool) (s : State) : (startSearch c s).host = s.host := rfl

/-! ## `fail` -/

@[simp] theorem fail_st (k : Err) (s : State) : (fail k s).st = .failed := rfl
@[simp] theorem fail_midx (k : Err) (s : State) : (fail k s).midx = s.midx := rfl
@[simp] theorem fail_chain (k : Err) (s : State) : (fail k s).chain = s.chain := rfl
@[simp] theorem fail_att (k : Err) (s : State) : (fail k s).att = s.att := rfl
@[simp] theorem fail_cnt (k : Err) (s : State) : (fail k s).cnt = s.cnt := rfl
@[simp] theorem fail_cls (k : Err) (s : State) : (fail k s).cls = s.cls := rfl
@[simp] theorem fail_id (k : Err) (s : State) : (fail k s).id = s.id := rfl
@[simp] theorem fail_len (k : Err) (s : State) : (fail k s).len = s.len := rfl
@[simp] theorem fail_ckA (k : Err) (s : State) : (fail k s).ckA = s.ckA := rfl
@[simp] theorem fail_ckB (k : Err) (s : State) : (fail k s).ckB = s.ckB := rfl
@[simp] theorem fail_rxA (k : Err) (s : State) : (fail k s).rxA = s.rxA := rfl
@[simp] theorem fail_rxB (k : Err) (s : State) : (fail k s).rxB = s.rxB := rfl
@[simp] theorem fail_err (k : Err) (s : State) : (fail k s).err = k := rfl
@[simp] theorem fail_pbuf (k : Err) (s : State) : (fail k s).pbuf = s.pbuf := rfl
@[simp] theorem fail_budget (k : Err) (s : State) : (fail k s).budget = s.budget := rfl
@[simp] theorem fail_chan (k : Err) (s : State) : (fail k s).chan = s.chan := rfl
@[simp] theorem fail_host (k : Err) (s : State) : (fail k s).host = s.host := rfl

/-! ## `resetRegs` -/

@[simp] theorem resetRegs_st (s : State) : (resetRegs s).st = .idle := rfl
@[simp] theorem resetRegs_midx (s : State) : (resetRegs s).midx = false := rfl
@[simp] theorem resetRegs_chain (s : State) : (resetRegs s).chain = false := rfl
@[simp] theorem resetRegs_att (s : State) : (resetRegs s).att = 0 := rfl
@[simp] theorem resetRegs_cnt (s : State) : (resetRegs s).cnt = 0 := rfl
@[simp] theorem resetRegs_cls (s : State) : (resetRegs s).cls = 0 := rfl
@[simp] theorem resetRegs_id (s : State) : (resetRegs s).id = 0 := rfl
@[simp] theorem resetRegs_len (s : State) : (resetRegs s).len = 0 := rfl
@[simp] theorem resetRegs_ckA (s : State) : (resetRegs s).ckA = 0 := rfl
@[simp] theorem resetRegs_ckB (s : State) : (resetRegs s).ckB = 0 := rfl
@[simp] theorem resetRegs_rxA (s : State) : (resetRegs s).rxA = 0 := rfl
@[simp] theorem resetRegs_rxB (s : State) : (resetRegs s).rxB = 0 := rfl
@[simp] theorem resetRegs_err (s : State) : (resetRegs s).err = .none := rfl
@[simp] theorem resetRegs_pbuf (s : State) : (resetRegs s).pbuf = s.pbuf := rfl
@[simp] theorem resetRegs_budget (s : State) : (resetRegs s).budget = s.budget := rfl
@[simp] theorem resetRegs_chan (s : State) : (resetRegs s).chan = s.chan := rfl
@[simp] theorem resetRegs_host (s : State) : (resetRegs s).host = s.host := rfl

/-! ## `setCnt` -/

@[simp] theorem setCnt_st (n : Half) (s : State) : (setCnt n s).st = s.st := rfl
@[simp] theorem setCnt_midx (n : Half) (s : State) : (setCnt n s).midx = s.midx := rfl
@[simp] theorem setCnt_chain (n : Half) (s : State) : (setCnt n s).chain = s.chain := rfl
@[simp] theorem setCnt_att (n : Half) (s : State) : (setCnt n s).att = s.att := rfl
@[simp] theorem setCnt_cnt (n : Half) (s : State) : (setCnt n s).cnt = n := rfl
@[simp] theorem setCnt_cls (n : Half) (s : State) : (setCnt n s).cls = s.cls := rfl
@[simp] theorem setCnt_id (n : Half) (s : State) : (setCnt n s).id = s.id := rfl
@[simp] theorem setCnt_len (n : Half) (s : State) : (setCnt n s).len = s.len := rfl
@[simp] theorem setCnt_ckA (n : Half) (s : State) : (setCnt n s).ckA = s.ckA := rfl
@[simp] theorem setCnt_ckB (n : Half) (s : State) : (setCnt n s).ckB = s.ckB := rfl
@[simp] theorem setCnt_rxA (n : Half) (s : State) : (setCnt n s).rxA = s.rxA := rfl
@[simp] theorem setCnt_rxB (n : Half) (s : State) : (setCnt n s).rxB = s.rxB := rfl
@[simp] theorem setCnt_err (n : Half) (s : State) : (setCnt n s).err = s.err := rfl
@[simp] theorem setCnt_pbuf (n : Half) (s : State) : (setCnt n s).pbuf = s.pbuf := rfl
@[simp] theorem setCnt_budget (n : Half) (s : State) : (setCnt n s).budget = s.budget := rfl
@[simp] theorem setCnt_chan (n : Half) (s : State) : (setCnt n s).chan = s.chan := rfl
@[simp] theorem setCnt_host (n : Half) (s : State) : (setCnt n s).host = s.host := rfl

/-! ## `storeCell` -/

@[simp] theorem storeCell_st (k : Nat) (v : Byte) (s : State) : (storeCell k v s).st = s.st := rfl
@[simp] theorem storeCell_midx (k : Nat) (v : Byte) (s : State) : (storeCell k v s).midx = s.midx := rfl
@[simp] theorem storeCell_chain (k : Nat) (v : Byte) (s : State) : (storeCell k v s).chain = s.chain := rfl
@[simp] theorem storeCell_att (k : Nat) (v : Byte) (s : State) : (storeCell k v s).att = s.att := rfl
@[simp] theorem storeCell_cnt (k : Nat) (v : Byte) (s : State) : (storeCell k v s).cnt = s.cnt := rfl
@[simp] theorem storeCell_cls (k : Nat) (v : Byte) (s : State) : (storeCell k v s).cls = s.cls := rfl
@[simp] theorem storeCell_id (k : Nat) (v : Byte) (s : State) : (storeCell k v s).id = s.id := rfl
@[simp] theorem storeCell_len (k : Nat) (v : Byte) (s : State) : (storeCell k v s).len = s.len := rfl
@[simp] theorem storeCell_ckA (k : Nat) (v : Byte) (s : State) : (storeCell k v s).ckA = s.ckA := rfl
@[simp] theorem storeCell_ckB (k : Nat) (v : Byte) (s : State) : (storeCell k v s).ckB = s.ckB := rfl
@[simp] theorem storeCell_rxA (k : Nat) (v : Byte) (s : State) : (storeCell k v s).rxA = s.rxA := rfl
@[simp] theorem storeCell_rxB (k : Nat) (v : Byte) (s : State) : (storeCell k v s).rxB = s.rxB := rfl
@[simp] theorem storeCell_err (k : Nat) (v : Byte) (s : State) : (storeCell k v s).err = s.err := rfl
@[simp] theorem storeCell_pbuf (k : Nat) (v : Byte) (s : State) : (storeCell k v s).pbuf = s.pbuf.write k v := rfl
@[simp] theorem storeCell_budget (k : Nat) (v : Byte) (s : State) : (storeCell k v s).budget = s.budget := rfl
@[simp] theorem storeCell_chan (k : Nat) (v : Byte) (s : State) : (storeCell k v s).chan = s.chan := rfl
@[simp] theorem storeCell_host (k : Nat) (v : Byte) (s : State) : (storeCell k v s).host = s.host := rfl

/-! ## `firstMatched` -/

@[simp] theorem firstMatched_st (s : State) : (firstMatched s).st = s.st := rfl
@[simp] theorem firstMatched_midx (s : State) : (firstMatched s).midx = true := rfl
@[simp] theorem firstMatched_chain (s : State) : (firstMatched s).chain = s.chain := rfl
@[simp] theorem firstMatched_att (s : State) : (firstMatched s).att = s.att := rfl
@[simp] theorem firstMatched_cnt (s : State) : (firstMatched s).cnt = s.cnt := rfl
@[simp] theorem firstMatched_cls (s : State) : (firstMatched s).cls = s.cls := rfl
@[simp] theorem firstMatched_id (s : State) : (firstMatched s).id = s.id := rfl
@[simp] theorem firstMatched_len (s : State) : (firstMatched s).len = s.len := rfl
@[simp] theorem firstMatched_ckA (s : State) : (firstMatched s).ckA = s.ckA := rfl
@[simp] theorem firstMatched_ckB (s : State) : (firstMatched s).ckB = s.ckB := rfl
@[simp] theorem firstMatched_rxA (s : State) : (firstMatched s).rxA = s.rxA := rfl
@[simp] theorem firstMatched_rxB (s : State) : (firstMatched s).rxB = s.rxB := rfl
@[simp] theorem firstMatched_err (s : State) : (firstMatched s).err = s.err := rfl
@[simp] theorem firstMatched_pbuf (s : State) : (firstMatched s).pbuf = s.pbuf := rfl
@[simp] theorem firstMatched_budget (s : State) : (firstMatched s).budget = s.budget := rfl
@[simp] theorem firstMatched_chan (s : State) : (firstMatched s).chan = s.chan := rfl
@[simp] theorem firstMatched_host (s : State) : (firstMatched s).host = s.host := rfl

/-! ## `clearMidx` -/

@[simp] theorem clearMidx_st (s : State) : (clearMidx s).st = s.st := rfl
@[simp] theorem clearMidx_midx (s : State) : (clearMidx s).midx = false := rfl
@[simp] theorem clearMidx_chain (s : State) : (clearMidx s).chain = s.chain := rfl
@[simp] theorem clearMidx_att (s : State) : (clearMidx s).att = s.att := rfl
@[simp] theorem clearMidx_cnt (s : State) : (clearMidx s).cnt = s.cnt := rfl
@[simp] theorem clearMidx_cls (s : State) : (clearMidx s).cls = s.cls := rfl
@[simp] theorem clearMidx_id (s : State) : (clearMidx s).id = s.id := rfl
@[simp] theorem clearMidx_len (s : State) : (clearMidx s).len = s.len := rfl
@[simp] theorem clearMidx_ckA (s : State) : (clearMidx s).ckA = s.ckA := rfl
@[simp] theorem clearMidx_ckB (s : State) : (clearMidx s).ckB = s.ckB := rfl
@[simp] theorem clearMidx_rxA (s : State) : (clearMidx s).rxA = s.rxA := rfl
@[simp] theorem clearMidx_rxB (s : State) : (clearMidx s).rxB = s.rxB := rfl
@[simp] theorem clearMidx_err (s : State) : (clearMidx s).err = s.err := rfl
@[simp] theorem clearMidx_pbuf (s : State) : (clearMidx s).pbuf = s.pbuf := rfl
@[simp] theorem clearMidx_budget (s : State) : (clearMidx s).budget = s.budget := rfl
@[simp] theorem clearMidx_chan (s : State) : (clearMidx s).chan = s.chan := rfl
@[simp] theorem clearMidx_host (s : State) : (clearMidx s).host = s.host := rfl

/-! ## `restSynced` -/

@[simp] theorem restSynced_st (s : State) : (restSynced s).st = .synced := rfl
@[simp] theorem restSynced_midx (s : State) : (restSynced s).midx = s.midx := rfl
@[simp] theorem restSynced_chain (s : State) : (restSynced s).chain = s.chain := rfl
@[simp] theorem restSynced_att (s : State) : (restSynced s).att = s.att := rfl
@[simp] theorem restSynced_cnt (s : State) : (restSynced s).cnt = s.cnt := rfl
@[simp] theorem restSynced_cls (s : State) : (restSynced s).cls = s.cls := rfl
@[simp] theorem restSynced_id (s : State) : (restSynced s).id = s.id := rfl
@[simp] theorem restSynced_len (s : State) : (restSynced s).len = s.len := rfl
@[simp] theorem restSynced_ckA (s : State) : (restSynced s).ckA = s.ckA := rfl
@[simp] theorem restSynced_ckB (s : State) : (restSynced s).ckB = s.ckB := rfl
@[simp] theorem restSynced_rxA (s : State) : (restSynced s).rxA = s.rxA := rfl
@[simp] theorem restSynced_rxB (s : State) : (restSynced s).rxB = s.rxB := rfl
@[simp] theorem restSynced_err (s : State) : (restSynced s).err = s.err := rfl
@[simp] theorem restSynced_pbuf (s : State) : (restSynced s).pbuf = s.pbuf := rfl
@[simp] theorem restSynced_budget (s : State) : (restSynced s).budget = s.budget := rfl
@[simp] theorem restSynced_chan (s : State) : (restSynced s).chan = s.chan := rfl
@[simp] theorem restSynced_host (s : State) : (restSynced s).host = s.host := rfl

/-! ## `classStored` -/

@[simp] theorem classStored_st (b : Byte) (s : State) : (classStored b s).st = s.st := rfl
@[simp] theorem classStored_midx (b : Byte) (s : State) : (classStored b s).midx = s.midx := rfl
@[simp] theorem classStored_chain (b : Byte) (s : State) : (classStored b s).chain = s.chain := rfl
@[simp] theorem classStored_att (b : Byte) (s : State) : (classStored b s).att = s.att := rfl
@[simp] theorem classStored_cnt (b : Byte) (s : State) : (classStored b s).cnt = 1 := rfl
@[simp] theorem classStored_cls (b : Byte) (s : State) : (classStored b s).cls = b := rfl
@[simp] theorem classStored_id (b : Byte) (s : State) : (classStored b s).id = s.id := rfl
@[simp] theorem classStored_len (b : Byte) (s : State) : (classStored b s).len = s.len := rfl
@[simp] theorem classStored_ckA (b : Byte) (s : State) : (classStored b s).ckA = s.ckA + b := rfl
@[simp] theorem classStored_ckB (b : Byte) (s : State) : (classStored b s).ckB = s.ckB + (s.ckA + b) := rfl
@[simp] theorem classStored_rxA (b : Byte) (s : State) : (classStored b s).rxA = s.rxA := rfl
@[simp] theorem classStored_rxB (b : Byte) (s : State) : (classStored b s).rxB = s.rxB := rfl
@[simp] theorem classStored_err (b : Byte) (s : State) : (classStored b s).err = s.err := rfl
@[simp] theorem classStored_pbuf (b : Byte) (s : State) : (classStored b s).pbuf = s.pbuf := rfl
@[simp] theorem classStored_budget (b : Byte) (s : State) : (classStored b s).budget = s.budget := rfl
@[simp] theorem classStored_chan (b : Byte) (s : State) : (classStored b s).chan = s.chan := rfl
@[simp] theorem classStored_host (b : Byte) (s : State) : (classStored b s).host = s.host := rfl

/-! ## `idStored` -/

@[simp] theorem idStored_st (b : Byte) (s : State) : (idStored b s).st = .readingLength := rfl
@[simp] theorem idStored_midx (b : Byte) (s : State) : (idStored b s).midx = s.midx := rfl
@[simp] theorem idStored_chain (b : Byte) (s : State) : (idStored b s).chain = s.chain := rfl
@[simp] theorem idStored_att (b : Byte) (s : State) : (idStored b s).att = s.budget := rfl
@[simp] theorem idStored_cnt (b : Byte) (s : State) : (idStored b s).cnt = 0 := rfl
@[simp] theorem idStored_cls (b : Byte) (s : State) : (idStored b s).cls = s.cls := rfl
@[simp] theorem idStored_id (b : Byte) (s : State) : (idStored b s).id = b := rfl
@[simp] theorem idStored_len (b : Byte) (s : State) : (idStored b s).len = s.len := rfl
@[simp] theorem idStored_ckA (b : Byte) (s : State) : (idStored b s).ckA = s.ckA + b := rfl
@[simp] theorem idStored_ckB (b : Byte) (s : State) : (idStored b s).ckB = s.ckB + (s.ckA + b) := rfl
@[simp] theorem idStored_rxA (b : Byte) (s : State) : (idStored b s).rxA = s.rxA := rfl
@[simp] theorem idStored_rxB (b : Byte) (s : State) : (idStored b s).rxB = s.rxB := rfl
@[simp] theorem idStored_err (b : Byte) (s : State) : (idStored b s).err = s.err := rfl
@[simp] theorem idStored_pbuf (b : Byte) (s : State) : (idStored b s).pbuf = s.pbuf := rfl
@[simp] theorem idStored_budget (b : Byte) (s : State) : (idStored b s).budget = s.budget := rfl
@[simp] theorem idStored_chan (b : Byte) (s : State) : (idStored b s).chan = s.chan := rfl
@[simp] theorem idStored_host (b : Byte) (s : State) : (idStored b s).host = s.host := rfl

/-! ## `lengthLowStored` -/

@[simp] theorem lengthLowStored_st (b : Byte) (s : State) : (lengthLowStored b s).st = s.st := rfl
@[simp] theorem lengthLowStored_midx (b : Byte) (s : State) : (lengthLowStored b s).midx = s.midx := rfl
@[simp] theorem lengthLowStored_chain (b : Byte) (s : State) : (lengthLowStored b s).chain = s.chain := rfl
@[simp] theorem lengthLowStored_att (b : Byte) (s : State) : (lengthLowStored b s).att = s.att := rfl
@[simp] theorem lengthLowStored_cnt (b : Byte) (s : State) : (lengthLowStored b s).cnt = 1 := rfl
@[simp] theorem lengthLowStored_cls (b : Byte) (s : State) : (lengthLowStored b s).cls = s.cls := rfl
@[simp] theorem lengthLowStored_id (b : Byte) (s : State) : (lengthLowStored b s).id = s.id := rfl
@[simp] theorem lengthLowStored_len (b : Byte) (s : State) : (lengthLowStored b s).len = b.setWidth 16 := rfl
@[simp] theorem lengthLowStored_ckA (b : Byte) (s : State) : (lengthLowStored b s).ckA = s.ckA + b := rfl
@[simp] theorem lengthLowStored_ckB (b : Byte) (s : State) : (lengthLowStored b s).ckB = s.ckB + (s.ckA + b) := rfl
@[simp] theorem lengthLowStored_rxA (b : Byte) (s : State) : (lengthLowStored b s).rxA = s.rxA := rfl
@[simp] theorem lengthLowStored_rxB (b : Byte) (s : State) : (lengthLowStored b s).rxB = s.rxB := rfl
@[simp] theorem lengthLowStored_err (b : Byte) (s : State) : (lengthLowStored b s).err = s.err := rfl
@[simp] theorem lengthLowStored_pbuf (b : Byte) (s : State) : (lengthLowStored b s).pbuf = s.pbuf := rfl
@[simp] theorem lengthLowStored_budget (b : Byte) (s : State) : (lengthLowStored b s).budget = s.budget := rfl
@[simp] theorem lengthLowStored_chan (b : Byte) (s : State) : (lengthLowStored b s).chan = s.chan := rfl
@[simp] theorem lengthLowStored_host (b : Byte) (s : State) : (lengthLowStored b s).host = s.host := rfl

/-! ## `lengthStored` -/

@[simp] theorem lengthStored_st (l : Half) (b : Byte) (s : State) : (lengthStored l b s).st = afterLength l := rfl
@[simp] theorem lengthStored_midx (l : Half) (b : Byte) (s : State) : (lengthStored l b s).midx = s.midx := rfl
@[simp] theorem lengthStored_chain (l : Half) (b : Byte) (s : State) : (lengthStored l b s).chain = s.chain := rfl
@[simp] theorem lengthStored_att (l : Half) (b : Byte) (s : State) : (lengthStored l b s).att = s.budget := rfl
@[simp] theorem lengthStored_cnt (l : Half) (b : Byte) (s : State) : (lengthStored l b s).cnt = 0 := rfl
@[simp] theorem lengthStored_cls (l : Half) (b : Byte) (s : State) : (lengthStored l b s).cls = s.cls := rfl
@[simp] theorem lengthStored_id (l : Half) (b : Byte) (s : State) : (lengthStored l b s).id = s.id := rfl
@[simp] theorem lengthStored_len (l : Half) (b : Byte) (s : State) : (lengthStored l b s).len = l := rfl
@[simp] theorem lengthStored_ckA (l : Half) (b : Byte) (s : State) : (lengthStored l b s).ckA = s.ckA + b := rfl
@[simp] theorem lengthStored_ckB (l : Half) (b : Byte) (s : State) : (lengthStored l b s).ckB = s.ckB + (s.ckA + b) := rfl
@[simp] theorem lengthStored_rxA (l : Half) (b : Byte) (s : State) : (lengthStored l b s).rxA = s.rxA := rfl
@[simp] theorem lengthStored_rxB (l : Half) (b : Byte) (s : State) : (lengthStored l b s).rxB = s.rxB := rfl
@[simp] theorem lengthStored_err (l : Half) (b : Byte) (s : State) : (lengthStored l b s).err = s.err := rfl
@[simp] theorem lengthStored_pbuf (l : Half) (b : Byte) (s : State) : (lengthStored l b s).pbuf = s.pbuf := rfl
@[simp] theorem lengthStored_budget (l : Half) (b : Byte) (s : State) : (lengthStored l b s).budget = s.budget := rfl
@[simp] theorem lengthStored_chan (l : Half) (b : Byte) (s : State) : (lengthStored l b s).chan = s.chan := rfl
@[simp] theorem lengthStored_host (l : Half) (b : Byte) (s : State) : (lengthStored l b s).host = s.host := rfl

/-! ## `rxAStored` -/

@[simp] theorem rxAStored_st (b : Byte) (s : State) : (rxAStored b s).st = s.st := rfl
@[simp] theorem rxAStored_midx (b : Byte) (s : State) : (rxAStored b s).midx = s.midx := rfl
@[simp] theorem rxAStored_chain (b : Byte) (s : State) : (rxAStored b s).chain = s.chain := rfl
@[simp] theorem rxAStored_att (b : Byte) (s : State) : (rxAStored b s).att = s.att := rfl
@[simp] theorem rxAStored_cnt (b : Byte) (s : State) : (rxAStored b s).cnt = 1 := rfl
@[simp] theorem rxAStored_cls (b : Byte) (s : State) : (rxAStored b s).cls = s.cls := rfl
@[simp] theorem rxAStored_id (b : Byte) (s : State) : (rxAStored b s).id = s.id := rfl
@[simp] theorem rxAStored_len (b : Byte) (s : State) : (rxAStored b s).len = s.len := rfl
@[simp] theorem rxAStored_ckA (b : Byte) (s : State) : (rxAStored b s).ckA = s.ckA := rfl
@[simp] theorem rxAStored_ckB (b : Byte) (s : State) : (rxAStored b s).ckB = s.ckB := rfl
@[simp] theorem rxAStored_rxA (b : Byte) (s : State) : (rxAStored b s).rxA = b := rfl
@[simp] theorem rxAStored_rxB (b : Byte) (s : State) : (rxAStored b s).rxB = s.rxB := rfl
@[simp] theorem rxAStored_err (b : Byte) (s : State) : (rxAStored b s).err = s.err := rfl
@[simp] theorem rxAStored_pbuf (b : Byte) (s : State) : (rxAStored b s).pbuf = s.pbuf := rfl
@[simp] theorem rxAStored_budget (b : Byte) (s : State) : (rxAStored b s).budget = s.budget := rfl
@[simp] theorem rxAStored_chan (b : Byte) (s : State) : (rxAStored b s).chan = s.chan := rfl
@[simp] theorem rxAStored_host (b : Byte) (s : State) : (rxAStored b s).host = s.host := rfl

/-! ## `rxBStored` -/

@[simp] theorem rxBStored_st (b : Byte) (s : State) : (rxBStored b s).st = s.st := rfl
@[simp] theorem rxBStored_midx (b : Byte) (s : State) : (rxBStored b s).midx = s.midx := rfl
@[simp] theorem rxBStored_chain (b : Byte) (s : State) : (rxBStored b s).chain = s.chain := rfl
@[simp] theorem rxBStored_att (b : Byte) (s : State) : (rxBStored b s).att = s.att := rfl
@[simp] theorem rxBStored_cnt (b : Byte) (s : State) : (rxBStored b s).cnt = 0 := rfl
@[simp] theorem rxBStored_cls (b : Byte) (s : State) : (rxBStored b s).cls = s.cls := rfl
@[simp] theorem rxBStored_id (b : Byte) (s : State) : (rxBStored b s).id = s.id := rfl
@[simp] theorem rxBStored_len (b : Byte) (s : State) : (rxBStored b s).len = s.len := rfl
@[simp] theorem rxBStored_ckA (b : Byte) (s : State) : (rxBStored b s).ckA = s.ckA := rfl
@[simp] theorem rxBStored_ckB (b : Byte) (s : State) : (rxBStored b s).ckB = s.ckB := rfl
@[simp] theorem rxBStored_rxA (b : Byte) (s : State) : (rxBStored b s).rxA = s.rxA := rfl
@[simp] theorem rxBStored_rxB (b : Byte) (s : State) : (rxBStored b s).rxB = b := rfl
@[simp] theorem rxBStored_err (b : Byte) (s : State) : (rxBStored b s).err = s.err := rfl
@[simp] theorem rxBStored_pbuf (b : Byte) (s : State) : (rxBStored b s).pbuf = s.pbuf := rfl
@[simp] theorem rxBStored_budget (b : Byte) (s : State) : (rxBStored b s).budget = s.budget := rfl
@[simp] theorem rxBStored_chan (b : Byte) (s : State) : (rxBStored b s).chan = s.chan := rfl
@[simp] theorem rxBStored_host (b : Byte) (s : State) : (rxBStored b s).host = s.host := rfl

/-! ## `frameDone` -/

@[simp] theorem frameDone_st (s : State) : (frameDone s).st = .done := rfl
@[simp] theorem frameDone_midx (s : State) : (frameDone s).midx = s.midx := rfl
@[simp] theorem frameDone_chain (s : State) : (frameDone s).chain = s.chain := rfl
@[simp] theorem frameDone_att (s : State) : (frameDone s).att = s.att := rfl
@[simp] theorem frameDone_cnt (s : State) : (frameDone s).cnt = s.cnt := rfl
@[simp] theorem frameDone_cls (s : State) : (frameDone s).cls = s.cls := rfl
@[simp] theorem frameDone_id (s : State) : (frameDone s).id = s.id := rfl
@[simp] theorem frameDone_len (s : State) : (frameDone s).len = s.len := rfl
@[simp] theorem frameDone_ckA (s : State) : (frameDone s).ckA = s.ckA := rfl
@[simp] theorem frameDone_ckB (s : State) : (frameDone s).ckB = s.ckB := rfl
@[simp] theorem frameDone_rxA (s : State) : (frameDone s).rxA = s.rxA := rfl
@[simp] theorem frameDone_rxB (s : State) : (frameDone s).rxB = s.rxB := rfl
@[simp] theorem frameDone_err (s : State) : (frameDone s).err = s.err := rfl
@[simp] theorem frameDone_pbuf (s : State) : (frameDone s).pbuf = s.pbuf := rfl
@[simp] theorem frameDone_budget (s : State) : (frameDone s).budget = s.budget := rfl
@[simp] theorem frameDone_chan (s : State) : (frameDone s).chan = s.chan := rfl
@[simp] theorem frameDone_host (s : State) : (frameDone s).host = s.host := rfl

/-! ## `orTimeout`: only `st` and `err` can change -/

@[simp] theorem orTimeout_st (k : Err) (s : State) :
    (orTimeout k s).st = if s.att = 0 then .failed else s.st := by
  unfold orTimeout
  split <;> rfl

@[simp] theorem orTimeout_err (k : Err) (s : State) :
    (orTimeout k s).err = if s.att = 0 then k else s.err := by
  unfold orTimeout
  split <;> rfl

@[simp] theorem orTimeout_midx (k : Err) (s : State) : (orTimeout k s).midx = s.midx := by
  unfold orTimeout
  split <;> rfl

@[simp] theorem orTimeout_chain (k : Err) (s : State) : (orTimeout k s).chain = s.chain := by
  unfold orTimeout
  split <;> rfl

@[simp] theorem orTimeout_att (k : Err) (s : State) : (orTimeout k s).att = s.att := by
  unfold orTimeout
  split <;> rfl

@[simp] theorem orTimeout_cnt (k : Err) (s : State) : (orTimeout k s).cnt = s.cnt := by
  unfold orTimeout
  split <;> rfl

@[simp] theorem orTimeout_cls (k : Err) (s : State) : (orTimeout k s).cls = s.cls := by
  unfold orTimeout
  split <;> rfl

@[simp] theorem orTimeout_id (k : Err) (s : State) : (orTimeout k s).id = s.id := by
  unfold orTimeout
  split <;> rfl

@[simp] theorem orTimeout_len (k : Err) (s : State) : (orTimeout k s).len = s.len := by
  unfold orTimeout
  split <;> rfl

@[simp] theorem orTimeout_ckA (k : Err) (s : State) : (orTimeout k s).ckA = s.ckA := by
  unfold orTimeout
  split <;> rfl

@[simp] theorem orTimeout_ckB (k : Err) (s : State) : (orTimeout k s).ckB = s.ckB := by
  unfold orTimeout
  split <;> rfl

@[simp] theorem orTimeout_rxA (k : Err) (s : State) : (orTimeout k s).rxA = s.rxA := by
  unfold orTimeout
  split <;> rfl

@[simp] theorem orTimeout_rxB (k : Err) (s : State) : (orTimeout k s).rxB = s.rxB := by
  unfold orTimeout
  split <;> rfl

@[simp] theorem orTimeout_pbuf (k : Err) (s : State) : (orTimeout k s).pbuf = s.pbuf := by
  unfold orTimeout
  split <;> rfl

@[simp] theorem orTimeout_budget (k : Err) (s : State) : (orTimeout k s).budget = s.budget := by
  unfold orTimeout
  split <;> rfl

@[simp] theorem orTimeout_chan (k : Err) (s : State) : (orTimeout k s).chan = s.chan := by
  unfold orTimeout
  split <;> rfl

@[simp] theorem orTimeout_host (k : Err) (s : State) : (orTimeout k s).host = s.host := by
  unfold orTimeout
  split <;> rfl

/-! ## `busy` is a function of `st` alone -/

@[simp] theorem busy_popHost (s : State) : s.popHost.busy = s.busy := rfl
@[simp] theorem busy_popChan (s : State) : s.popChan.busy = s.busy := rfl
@[simp] theorem busy_offer (bs : List Byte) (s : State) : (s.offer bs).busy = s.busy := rfl
@[simp] theorem busy_charge (s : State) : (charge s).busy = s.busy := rfl
@[simp] theorem busy_polled (s : State) : (polled s).busy = s.busy := rfl
@[simp] theorem busy_ckUpdate (b : Byte) (s : State) : (ckUpdate b s).busy = s.busy := rfl
@[simp] theorem busy_fail (k : Err) (s : State) : (fail k s).busy = false := rfl
@[simp] theorem busy_startSearch (c : Bool) (s : State) : (startSearch c s).busy = true := rfl
@[simp] theorem busy_beginRead (s : State) : (beginRead s).busy = true := rfl
@[simp] theorem busy_resetRegs (s : State) : (resetRegs s).busy = false := rfl

end Sys2Proof.Machine.Laws
end

