-- ==== Sys2Proof/Laws/Poll.lean ====
section
/-! SUPPORT. All that a busy step can do, said once, and what every busy step leaves alone; waiting for rest. -/

namespace Sys2Proof.Machine.Laws

/-! ## The polls, rule by rule -/

theorem seekPoll_empty (s : State) : seekPoll none s = orTimeout .syncTimeout s := rfl

theorem seekPoll_first {s : State} (hm : s.midx = false) :
    seekPoll (some Config.SYNC0) s = orTimeout .syncTimeout (firstMatched s) := by
  simp [seekPoll, Config.expectedSync, hm]

theorem seekPoll_found {s : State} (hm : s.midx = true) : seekPoll (some Config.SYNC1) s = syncFound s := by
  simp [seekPoll, Config.expectedSync, hm]

theorem syncFound_synced {s : State} (hc : s.chain = false) : syncFound s = restSynced (clearMidx s) := by
  simp [syncFound, hc]

theorem syncFound_chained {s : State} (hc : s.chain = true) : syncFound s = beginRead (clearMidx s) := by
  simp [syncFound, hc]

theorem seekPoll_mismatch {s : State} {b : Byte} (hb : b ≠ Config.expectedSync s.midx) :
    seekPoll (some b) s = orTimeout .syncTimeout (clearMidx s) := by
  simp [seekPoll, hb]

theorem headerPoll_class {s : State} (hc : s.cnt = 0) (b : Byte) :
    headerPoll (some b) s = .next (orTimeout .readTimeout (classStored b s)) := by
  simp [headerPoll, hc]

theorem headerPoll_id {s : State} (hc : s.cnt = 1) (b : Byte) :
    headerPoll (some b) s = .next (idStored b s) := by
  simp [headerPoll, hc]

theorem lengthPoll_low {s : State} (hc : s.cnt = 0) (b : Byte) :
    lengthPoll (some b) s = .next (orTimeout .readTimeout (lengthLowStored b s)) := by
  simp [lengthPoll, hc]

theorem lengthPoll_high {s : State} (hc : s.cnt = 1) (b : Byte) :
    lengthPoll (some b) s = .next (lengthStored (joinBytes (lowByte s.len) b) b s) := by
  simp [lengthPoll, hc]

theorem payloadPoll_byte {s : State} (ha : s.cnt.toNat < Config.PBUF_SIZE) (b : Byte) :
    payloadPoll (some b) s = .next (payloadStored b (storeCell s.cnt.toNat b s)) := by
  simp [payloadPoll, memWrite_of_lt ha]

theorem payloadStored_last {s : State} (h : s.cnt.toNat + 1 = s.len.toNat) (b : Byte) :
    payloadStored b s = nextPhase .readingChecksum (ckUpdate b s) := if_pos h

theorem payloadStored_more {s : State} (h : s.cnt.toNat + 1 ≠ s.len.toNat) (b : Byte) :
    payloadStored b s = orTimeout .readTimeout (setCnt (s.cnt + 1) (ckUpdate b s)) := if_neg h

theorem checksumPoll_first {s : State} (hc : s.cnt = 0) (b : Byte) :
    checksumPoll (some b) s = .next (orTimeout .readTimeout (rxAStored b s)) := by
  simp [checksumPoll, hc]

theorem checksumPoll_second {s : State} (hc : s.cnt = 1) (b : Byte) :
    checksumPoll (some b) s = .next (validate (rxBStored b s)) := by
  simp [checksumPoll, hc]

theorem validate_valid {s : State} (h : s.rxA = s.ckA ∧ s.rxB = s.ckB) : validate s = frameDone s := if_pos h

theorem validate_invalid {s : State} (h : ¬(s.rxA = s.ckA ∧ s.rxB = s.ckB)) :
    validate s = fail .checksumMismatch s := if_neg h

/-! ## The busy step, state by state -/

theorem busyStep_seekingSync {s : State} (h : s.st = .seekingSync) :
    busyStep s = .next (seekPoll s.response (polled s)) := by simp [busyStep, h]

theorem busyStep_readingHeader {s : State} (h : s.st = .readingHeader) :
    busyStep s = headerPoll s.response (polled s) := by simp [busyStep, h]

theorem busyStep_readingLength {s : State} (h : s.st = .readingLength) :
    busyStep s = lengthPoll s.response (polled s) := by simp [busyStep, h]

theorem busyStep_readingPayload {s : State} (h : s.st = .readingPayload) :
    busyStep s = payloadPoll s.response (polled s) := by simp [busyStep, h]

theorem busyStep_readingChecksum {s : State} (h : s.st = .readingChecksum) :
    busyStep s = checksumPoll s.response (polled s) := by simp [busyStep, h]

theorem busyStep_rest {s : State} (h : s.busy = false) : busyStep s = .next s := by
  unfold State.busy at h
  unfold busyStep
  cases hs : s.st <;> simp_all [St.busy]

/-- A command at rest has its effect. -/
theorem atRest_rest {s : State} (h : s.busy = false) (f : State → State) : atRest f s = .next (f s) := by
  simp [atRest, h]

/-- A command in a busy state is not looked at. -/
theorem atRest_busy {s : State} (h : s.busy = true) (f : State → State) : atRest f s = busyStep s := by
  simp [atRest, h]

/-- Every next state of a busy step, one constructor for each rule of 42_sync.md and 43_read_frame.md. -/
inductive PollEffect (s : State) : State → Prop where
  | searchEmpty (hs : s.st = .seekingSync) (hr : s.response = none) :
      PollEffect s (orTimeout .syncTimeout (polled s))
  | searchFirst (hs : s.st = .seekingSync) (hm : s.midx = false) (hr : s.response = some Config.SYNC0) :
      PollEffect s (orTimeout .syncTimeout (firstMatched (polled s)))
  | searchSynced (hs : s.st = .seekingSync) (hm : s.midx = true) (hr : s.response = some Config.SYNC1)
      (hc : s.chain = false) : PollEffect s (restSynced (clearMidx (polled s)))
  | searchChained (hs : s.st = .seekingSync) (hm : s.midx = true) (hr : s.response = some Config.SYNC1)
      (hc : s.chain = true) : PollEffect s (beginRead (clearMidx (polled s)))
  | searchMismatch (b : Byte) (hs : s.st = .seekingSync) (hr : s.response = some b)
      (hb : b ≠ Config.expectedSync s.midx) :
      PollEffect s (orTimeout .syncTimeout (clearMidx (polled s)))
  | readEmpty (hs : s.st.reading = true) (hr : s.response = none) :
      PollEffect s (orTimeout .readTimeout (polled s))
  | headerClass (b : Byte) (hs : s.st = .readingHeader) (hr : s.response = some b) (hc : s.cnt = 0) :
      PollEffect s (orTimeout .readTimeout (classStored b (polled s)))
  | headerId (b : Byte) (hs : s.st = .readingHeader) (hr : s.response = some b) (hc : s.cnt = 1) :
      PollEffect s (idStored b (polled s))
  | lengthLow (b : Byte) (hs : s.st = .readingLength) (hr : s.response = some b) (hc : s.cnt = 0) :
      PollEffect s (orTimeout .readTimeout (lengthLowStored b (polled s)))
  | lengthHigh (b : Byte) (hs : s.st = .readingLength) (hr : s.response = some b) (hc : s.cnt = 1) :
      PollEffect s (lengthStored (joinBytes (lowByte s.len) b) b (polled s))
  | payloadLast (b : Byte) (hs : s.st = .readingPayload) (hr : s.response = some b)
      (ha : s.cnt.toNat < Config.PBUF_SIZE) (hc : s.cnt.toNat + 1 = s.len.toNat) :
      PollEffect s (nextPhase .readingChecksum (ckUpdate b (storeCell s.cnt.toNat b (polled s))))
  | payloadMore (b : Byte) (hs : s.st = .readingPayload) (hr : s.response = some b)
      (ha : s.cnt.toNat < Config.PBUF_SIZE) (hc : s.cnt.toNat + 1 ≠ s.len.toNat) :
      PollEffect s (orTimeout .readTimeout (setCnt (s.cnt + 1) (ckUpdate b (storeCell s.cnt.toNat b (polled s)))))
  | checksumFirst (b : Byte) (hs : s.st = .readingChecksum) (hr : s.response = some b) (hc : s.cnt = 0) :
      PollEffect s (orTimeout .readTimeout (rxAStored b (polled s)))
  | checksumValid (b : Byte) (hs : s.st = .readingChecksum) (hr : s.response = some b) (hc : s.cnt = 1)
      (hA : s.rxA = s.ckA) (hB : b = s.ckB) : PollEffect s (frameDone (rxBStored b (polled s)))
  | checksumInvalid (b : Byte) (hs : s.st = .readingChecksum) (hr : s.response = some b) (hc : s.cnt = 1)
      (hAB : ¬(s.rxA = s.ckA ∧ b = s.ckB)) : PollEffect s (fail .checksumMismatch (rxBStored b (polled s)))

/-- All that a step in `SEEKING_SYNC` can do. -/
theorem seekPoll_effect {s : State} (hs : s.st = .seekingSync) : PollEffect s (seekPoll s.response (polled s)) := by
  cases hr : s.response with
  | none => exact .searchEmpty hs hr
  | some b =>
    by_cases hb : b = Config.expectedSync s.midx
    · cases hm : s.midx with
      | false =>
        rw [hm] at hb
        have hb' : b = Config.SYNC0 := hb
        rw [hb', seekPoll_first (s := polled s) hm]
        exact .searchFirst hs hm (hb' ▸ hr)
      | true =>
        rw [hm] at hb
        have hb' : b = Config.SYNC1 := hb
        rw [hb', seekPoll_found (s := polled s) hm]
        cases hc : s.chain with
        | false =>
          rw [syncFound_synced (s := polled s) hc]
          exact .searchSynced hs hm (hb' ▸ hr) hc
        | true =>
          rw [syncFound_chained (s := polled s) hc]
          exact .searchChained hs hm (hb' ▸ hr) hc
    · rw [seekPoll_mismatch (s := polled s) hb]
      exact .searchMismatch b hs hr hb

/-- All that a busy step can do. -/
theorem busyStep_effect {s t : State} (hb : s.busy = true) (h : busyStep s = .next t) : PollEffect s t := by
  have reading : ∀ p : St, s.st = p → p.reading = true → s.st.reading = true := fun p hp hr => hp ▸ hr
  cases hs : s.st with
  | idle => simp [State.busy, St.busy, hs] at hb
  | synced => simp [State.busy, St.busy, hs] at hb
  | done => simp [State.busy, St.busy, hs] at hb
  | failed => simp [State.busy, St.busy, hs] at hb
  | seekingSync =>
    rw [busyStep_seekingSync hs] at h
    cases h
    exact seekPoll_effect hs
  | readingHeader =>
    rw [busyStep_readingHeader hs] at h
    cases hr : s.response with
    | none => rw [hr] at h; cases h; exact .readEmpty (reading _ hs rfl) hr
    | some b =>
      rw [hr] at h
      simp only [headerPoll] at h
      split at h
      · next hc => cases h; exact .headerClass b hs hr hc
      · split at h
        · next hc => cases h; exact .headerId b hs hr hc
        · cases h
  | readingLength =>
    rw [busyStep_readingLength hs] at h
    cases hr : s.response with
    | none => rw [hr] at h; cases h; exact .readEmpty (reading _ hs rfl) hr
    | some b =>
      rw [hr] at h
      simp only [lengthPoll] at h
      split at h
      · next hc => cases h; exact .lengthLow b hs hr hc
      · split at h
        · next hc => cases h; exact .lengthHigh b hs hr hc
        · cases h
  | readingPayload =>
    rw [busyStep_readingPayload hs] at h
    cases hr : s.response with
    | none => rw [hr] at h; cases h; exact .readEmpty (reading _ hs rfl) hr
    | some b =>
      rw [hr] at h
      simp only [payloadPoll, polled_cnt] at h
      cases hw : memWrite s.cnt.toNat b (polled s) with
      | next u =>
        obtain ⟨ha, hu⟩ := memWrite_next hw
        rw [hw] at h
        cases h
        rw [hu]
        by_cases hc : s.cnt.toNat + 1 = s.len.toNat
        · rw [payloadStored_last (s := storeCell s.cnt.toNat b (polled s)) hc]
          exact .payloadLast b hs hr ha hc
        · rw [payloadStored_more (s := storeCell s.cnt.toNat b (polled s)) hc]
          exact .payloadMore b hs hr ha hc
      | fault e => rw [hw] at h; cases h
      | refused e => rw [hw] at h; cases h
  | readingChecksum =>
    rw [busyStep_readingChecksum hs] at h
    cases hr : s.response with
    | none => rw [hr] at h; cases h; exact .readEmpty (reading _ hs rfl) hr
    | some b =>
      rw [hr] at h
      simp only [checksumPoll] at h
      split at h
      · next hc => cases h; exact .checksumFirst b hs hr hc
      · split at h
        · next hc =>
          cases h
          by_cases hv : s.rxA = s.ckA ∧ b = s.ckB
          · rw [validate_valid (s := rxBStored b (polled s)) hv]
            exact .checksumValid b hs hr hc hv.1 hv.2
          · rw [validate_invalid (s := rxBStored b (polled s)) hv]
            exact .checksumInvalid b hs hr hc hv
        · cases h

/-! ## What every poll leaves alone -/

/-- What no poll writes, and the response it consumes (10_state.md R23, R37, 20_memory.md R61). -/
theorem PollEffect.keeps {s t : State} (h : PollEffect s t) :
    t.chain = s.chain ∧ t.budget = s.budget ∧ t.host = s.host ∧ t.chan = s.chan.tail := by
  cases h <;> simp

theorem busyStep_keeps {s t : State} (hb : s.busy = true) (h : busyStep s = .next t) :
    t.chain = s.chain ∧ t.budget = s.budget ∧ t.host = s.host ∧ t.chan = s.chan.tail :=
  (busyStep_effect hb h).keeps

/-! ## Waiting for rest -/

theorem awaitRestWithin_rest {s : State} (h : s.busy = false) (n : Nat) : awaitRestWithin n s = .next s := by
  cases n <;> simp [awaitRestWithin, h]

theorem awaitRestWithin_busy {s t : State} (hb : s.busy = true) (h : busyStep s = .next t) (n : Nat) :
    awaitRestWithin (n + 1) s = awaitRestWithin n t := by
  simp [awaitRestWithin, hb, h]

theorem awaitRest_rest {s : State} (h : s.busy = false) : awaitRest s = .next s := awaitRestWithin_rest h _

/-! ## What the channel offers -/

theorem offer_eq_self {s : State} {bs : List Byte} {rest : List (Option Byte)} (h : s.chan = bs.map some ++ rest) :
    s.offer bs = s := by
  have : s.chan.drop bs.length = rest := by
    rw [h, List.drop_append_of_le_length (by simp), List.drop_of_length_le (by simp), List.nil_append]
  unfold State.offer
  rw [this, ← h]

theorem response_cons {s : State} {r : Option Byte} {rest : List (Option Byte)} (h : s.chan = r :: rest) :
    s.response = r := by
  simp [State.response, h]

theorem offer_of_response {s : State} {b : Byte} (h : s.response = some b) : s.offer [b] = s := by
  unfold State.response at h
  split at h
  · cases h
  · next r rest hc => exact offer_eq_self (rest := rest) (by simp [hc, h])

theorem headBytes_prefix (n : Nat) (chan : List (Option Byte)) :
    ∃ rest, chan = (headBytes n chan).map some ++ rest := by
  induction n generalizing chan with
  | zero => exact ⟨chan, rfl⟩
  | succ n ih =>
    cases chan with
    | nil => exact ⟨[], rfl⟩
    | cons r chan =>
      cases r with
      | none => exact ⟨none :: chan, rfl⟩
      | some b =>
        obtain ⟨rest, hr⟩ := ih chan
        exact ⟨rest, by simpa [headBytes] using hr⟩

end Sys2Proof.Machine.Laws
end

