-- ==== Sys2Proof/Laws/Reference.lean ====
section
/-! SUPPORT. The outcome of an operation, state by state (10_state.md R35). -/

namespace Sys2Proof.Machine.Laws

theorem endingOf_synced {s : State} (h : s.st = .synced) : endingOf s = some .synced := by simp [endingOf, h]

theorem endingOf_failed {s : State} (h : s.st = .failed) : endingOf s = some (.failed s.err) := by simp [endingOf, h]

theorem endingOf_done {s : State} (h : s.st = .done) : endingOf s = (frameOf s).map .frame := by simp [endingOf, h]

theorem endingOf_idle {s : State} (h : s.st = .idle) : endingOf s = none := by simp [endingOf, h]

theorem endingOf_busy {s : State} (h : s.busy = true) : endingOf s = none := by
  unfold State.busy at h
  cases hs : s.st <;> simp_all [endingOf, St.busy]

/-- All that an outcome can say of a state. -/
theorem endingOf_some {s : State} {e : Ending} (h : endingOf s = some e) :
    (s.st = .synced ∧ e = .synced) ∨ (∃ f, s.st = .done ∧ frameOf s = some f ∧ e = .frame f) ∨
      (s.st = .failed ∧ e = .failed s.err) := by
  cases hs : s.st with
  | synced => rw [endingOf_synced hs] at h; cases h; exact .inl ⟨rfl, rfl⟩
  | failed => rw [endingOf_failed hs] at h; cases h; exact .inr (.inr ⟨rfl, rfl⟩)
  | done =>
    rw [endingOf_done hs] at h
    cases hf : frameOf s with
    | none => rw [hf] at h; cases h
    | some f => rw [hf] at h; cases h; exact .inr (.inl ⟨f, rfl, rfl, rfl⟩)
  | idle => rw [endingOf_idle hs] at h; cases h
  | seekingSync => simp [endingOf, hs] at h
  | readingHeader => simp [endingOf, hs] at h
  | readingLength => simp [endingOf, hs] at h
  | readingPayload => simp [endingOf, hs] at h
  | readingChecksum => simp [endingOf, hs] at h

end Sys2Proof.Machine.Laws
end

