-- ==== Sys2Proof/Laws/Step.lean ====
section
/-! SUPPORT. All that the operations between a poll and a step can do, each said once. -/

namespace Sys2Proof.Machine.Laws

/-- All that the exhaustion test can do. -/
theorem orTimeout_cases (k : Err) (s : State) :
    (s.att = 0 ∧ orTimeout k s = fail k s) ∨ (s.att ≠ 0 ∧ orTimeout k s = s) := by
  by_cases h : s.att = 0
  · exact .inl ⟨h, if_pos h⟩
  · exact .inr ⟨h, if_neg h⟩

/-- All that an operation guarded by rest can do. -/
theorem atRest_next {f : State → State} {s t : State} (h : atRest f s = .next t) :
    (s.busy = false ∧ t = f s) ∨ (s.busy = true ∧ PollEffect s t) := by
  cases hb : s.busy with
  | false =>
    rw [atRest_rest hb] at h
    cases h
    exact .inl ⟨rfl, rfl⟩
  | true =>
    rw [atRest_busy hb] at h
    exact .inr ⟨rfl, busyStep_effect hb h⟩

/-- All that waiting can do with one poll more to spend: nothing at rest, one poll and the rest of the wait while busy. -/
theorem awaitRestWithin_next {n : Nat} {s t : State} (h : awaitRestWithin (n + 1) s = .next t) :
    (s.busy = false ∧ t = s) ∨ ∃ u, s.busy = true ∧ PollEffect s u ∧ awaitRestWithin n u = .next t := by
  cases hb : s.busy with
  | false =>
    rw [awaitRestWithin_rest hb] at h
    cases h
    exact .inl ⟨rfl, rfl⟩
  | true =>
    unfold awaitRestWithin at h
    rw [if_pos hb] at h
    cases hu : busyStep s with
    | next u =>
      rw [hu] at h
      exact .inr ⟨u, rfl, busyStep_effect hb hu, h⟩
    | fault e => rw [hu] at h; cases h
    | refused e => rw [hu] at h; cases h

/-- What a wait does not write, however long it is. -/
theorem awaitRestWithin_keeps {n : Nat} {s t : State} (h : awaitRestWithin n s = .next t) :
    t.chain = s.chain ∧ t.budget = s.budget ∧ t.host = s.host := by
  induction n generalizing s with
  | zero => cases h; exact ⟨rfl, rfl, rfl⟩
  | succ n ih =>
    rcases awaitRestWithin_next h with ⟨_, rfl⟩ | ⟨u, _, hu, ht⟩
    · exact ⟨rfl, rfl, rfl⟩
    · obtain ⟨h1, h2, h3, _⟩ := hu.keeps
      obtain ⟨g1, g2, g3⟩ := ih ht
      exact ⟨g1.trans h1, g2.trans h2, g3.trans h3⟩

/-- The meaning of every frame row is one operation on the row's own bytes. -/
theorem exec_frameRow {i : Instr} (h : wellFormed .wire i = true) (s : State) :
    exec i s = awaitRest (s.offer (encode i)) := by
  cases i <;> first | rfl | simp [wellFormed] at h

/-- The meaning of every byte row is one operation on the row's own byte. -/
theorem exec_byteRow {i : Instr} {m : Bool} (h : wellFormed (.marker m) i = true) (s : State) :
    exec i s = atRest (fun t => t) (s.offer (encode i)) := by
  cases i <;> first | rfl | simp [wellFormed] at h

/-! ## The step, action by action -/

theorem step_of_budget {s : State} (hb : 1 ≤ s.budget) : step s = hostStep s := by
  have : s.budget ≠ 0 := by omega
  simp [step, cycle, this]

theorem step_reset {s : State} {c : BitVec 2} {a : Half} {h : List HostAct} (hb : 1 ≤ s.budget)
    (hh : s.host = .drive true c a :: h) : step s = .next (resetRegs s.popHost) := by
  rw [step_of_budget hb, hostStep, hh]

theorem step_drive {s : State} {c : BitVec 2} {a : Half} {h : List HostAct} (hb : 1 ≤ s.budget)
    (hh : s.host = .drive false c a :: h) : step s = cmdStep c s.popHost := by
  rw [step_of_budget hb, hostStep, hh]

theorem step_wait {s : State} {h : List HostAct} (hb : 1 ≤ s.budget) (hh : s.host = .wait :: h) :
    step s = waitStep s.popHost := by
  rw [step_of_budget hb, hostStep, hh]

theorem step_quiet {s : State} (hb : 1 ≤ s.budget) (hh : s.host = []) : step s = cmdStep 0 s := by
  rw [step_of_budget hb, hostStep, hh]

end Sys2Proof.Machine.Laws
end

