-- ==== Sys2Proof/Tests/Slice0.lean ====
section
/-! SUPPORT. The model's own tests: ill-formed terms are refused, words written out from 30_encoding.md decode to what they
stand for, one step of each instruction on a small state, and a concrete state and operands for the hypotheses of each
statement. Expected results are the worked examples of the rules named, or worked out by hand from them. -/

namespace Sys2Proof.Tests

open Sys2Proof.Machine

/-- The next state, if there is one. -/
def nextOf (r : Result) : Option State :=
  match r with
  | .next t => some t
  | .fault _ => none
  | .refused _ => none

/-- A small state: the reset state with this control state, budget and channel, and `att` full. -/
def small (st : St) (budget : Nat) (chan : List (Option Byte)) : State :=
  { State.reset with st := st, budget := budget, att := budget, chan := chan }

/-- The same in `FAILED`, with a failure kind as `FAILED` requires. -/
def failedState : State := { small .failed 4 [] with err := .readTimeout, att := 0 }

/-- The bytes of a list as poll responses without an empty poll. -/
def fed (bs : List Byte) : List (Option Byte) := bs.map some

/-! ## WellFormed refuses -/

theorem test_command_not_in_sync_slot : wellFormed (.marker false) .none = false := by decide
theorem test_sync_not_on_wire : wellFormed .wire .sync = false := by decide
theorem test_read_not_in_sync_slot : wellFormed (.marker true) .read = false := by decide
theorem test_recv_not_on_wire : wellFormed .wire .recv = false := by decide
theorem test_syncByte0_needs_midx_0 : wellFormed (.marker true) .syncByte0 = false := by decide
theorem test_syncByte1_needs_midx_1 : wellFormed (.marker false) .syncByte1 = false := by decide
theorem test_mismatch_is_not_the_expected_byte :
    wellFormed (.marker false) (.syncMismatch 0xB5) = false ∧ wellFormed (.marker true) (.syncMismatch 0x62) = false := by
  decide
theorem test_mismatch_not_a_command : wellFormed .cmd (.syncMismatch 0) = false := by decide
theorem test_mismatch_not_on_wire : wellFormed .wire (.syncMismatch 0) = false := by decide
theorem test_frame_not_a_command : wellFormed .cmd (.frame 1 2 3) = false := by decide
theorem test_frame_is_the_least_specific_row :
    wellFormed .wire (.frame 0x06 0x24 7) = false ∧ wellFormed .wire (.frame 0x06 0x09 13) = false ∧
      wellFormed .wire (.frame 0x05 0x01 2) = false := by decide
theorem test_nav5Cfg_not_a_command : wellFormed .cmd (.nav5Cfg 0) = false := by decide
theorem test_cfgSave_not_in_sync_slot : wellFormed (.marker false) .cfgSave = false := by decide
theorem test_ackAck_not_a_command : wellFormed .cmd .ackAck = false := by decide

/-! ## Words written out from the encodings -/

/-- 30_encoding.md R98: `00`, `01`, `10`, `11`. -/
theorem test_decode_commands :
    [0b00, 0b01, 0b10, 0b11].map (decodeTableWord 8) = [some .none, some .sync, some .read, some .recv] := by decide
/-- 30_encoding.md R97, R102: `B5` is `1011 0101`. -/
theorem test_decode_syncByte0 : decodeTableWord 8 0b10110101 = some .syncByte0 := by decide
/-- 30_encoding.md R97, R102: `62` is `0110 0010`. -/
theorem test_decode_syncByte1 : decodeTableWord 8 0b01100010 = some .syncByte1 := by decide
/-- 30_encoding.md R97: any other byte. -/
theorem test_decode_mismatch :
    decodeTableWord 8 0b01100011 = some (.syncMismatch 0x63) ∧ decode (.marker false) [0x62] = .ok (.syncMismatch 0x62, []) :=
  ⟨by decide, rfl⟩
/-- 30_encoding.md R102: the class, id and length bits in the order of the `encoding` string, the low length byte first. -/
theorem test_decode_frame :
    decodeTableWord 48 0b1011010101100010_10000001_01000010_00000011_00000100 = some (.frame 0x81 0x42 0x0403) := by decide
/-- 30_encoding.md R96, R102. -/
theorem test_decode_nav5Cfg :
    decodeTableWord 48 0b1011010101100010_00000110_00100100_00101000_00000000 = some (.nav5Cfg 40) := by decide
/-- 30_encoding.md R96, R102. -/
theorem test_decode_cfgSave :
    decodeTableWord 48 0b1011010101100010_00000110_00001001_00001101_00000000 = some .cfgSave := by decide
/-- 30_encoding.md R102: `B5 62 05 01 02 00`. -/
theorem test_decode_ackAck : decodeTableWord 48 0xB56205010200 = some .ackAck := by decide
/-- 30_encoding.md R94: without the marker there is no frame row. -/
theorem test_decode_no_marker : decodeTableWord 48 0xB46205010200 = none := by decide
/-- 30_encoding.md R91: the examples of the rule. -/
theorem test_length_bytes : joinBytes 0x02 0x00 = 2 ∧ joinBytes 0x00 0x01 = 256 ∧ joinBytes 0xFF 0xFF = 65535 := by decide

/-! ## A word placed for the next step -/

/-- `RECV`, placed on the `cmd` port, is what the next step runs (41_step_commands.md R146). -/
theorem test_place_command :
    (nextOf (step (State.reset.withFetchWord 8 3))).map (fun t => (t.st, t.chain, t.att)) =
      some (.seekingSync, true, 16384) := by decide
/-- `62` completes the marker of a search that has matched `B5` (42_sync.md R163). -/
theorem test_place_byte :
    (nextOf (step (State.reset.withFetchWord 8 0x62))).map (fun t => (t.st, t.midx)) = some (.synced, false) := by decide
/-- A frame of class 0, id 0 and length 0 whose checksum bytes are 0 is received (40_frame_checksum.md R124). -/
theorem test_place_frame :
    (nextOf (step (State.reset.withFetchWord 48 0xB56200000000))).map (fun t => (t.st, t.att)) =
      some (.done, 16382) := by decide

/-! ## One step of each instruction -/

/-- 41_step_commands.md R141: in `DONE` nothing changes. -/
theorem test_none_in_done : nextOf (exec .none (small .done 4 (fed [1]))) = some (small .done 4 (fed [1])) := by decide
/-- 42_sync.md R165, R171: the last attempt spent on an empty poll. -/
theorem test_none_times_out :
    (nextOf (exec .none { small .seekingSync 3 [none, some 0xB5] with att := 1 })).map
      (fun t => (t.st, t.err, t.att, t.chan)) = some (.failed, .syncTimeout, 0, [some 0xB5]) := by decide
/-- 41_step_commands.md R143: from `FAILED`. -/
theorem test_sync_from_failed :
    (nextOf (exec .sync failedState)).map (fun t => (t.st, t.err, t.att, t.chain)) =
      some (.seekingSync, .none, 4, false) := by decide
/-- 41_step_commands.md R145: after reset, `READ` fails. -/
theorem test_read_after_reset :
    (nextOf (exec .read State.reset)).map (fun t => (t.st, t.err)) = some (.failed, .notSynced) := by decide
/-- 41_step_commands.md R144, R147. -/
theorem test_read_from_synced :
    (nextOf (exec .read { small .synced 16 [] with att := 14, ckA := 7, ckB := 9 })).map
      (fun t => (t.st, t.att, t.ckA, t.ckB)) = some (.readingHeader, 16, 0, 0) := by decide
/-- 41_step_commands.md R146. -/
theorem test_recv_chains :
    (nextOf (exec .recv (small .done 4 []))).map (fun t => (t.st, t.chain)) = some (.seekingSync, true) := by decide
/-- 42_sync.md R162. -/
theorem test_syncByte0_advances :
    (nextOf (exec .syncByte0 (small .seekingSync 16 (fed [0xB5, 0x62])))).map (fun t => (t.midx, t.att, t.chan)) =
      some (true, 15, [some 0x62]) := by decide
/-- 42_sync.md R165: `00 B5 62` with `BUDGET = 2` leaves `midx = 1`. -/
theorem test_syncByte0_on_the_last_attempt :
    (nextOf (exec .syncByte0 { small .seekingSync 2 (fed [0xB5, 0x62]) with att := 1 })).map
      (fun t => (t.st, t.err, t.midx, t.chan)) = some (.failed, .syncTimeout, true, [some 0x62]) := by decide
/-- 42_sync.md R166: found on the last attempt. -/
theorem test_syncByte1_on_the_last_attempt :
    (nextOf (exec .syncByte1 { small .seekingSync 2 (fed [0x62]) with att := 1, midx := true })).map
      (fun t => (t.st, t.err, t.midx, t.att)) = some (.synced, .none, false, 0) := by decide
/-- 42_sync.md R163: a chained search reads on with a fresh budget. -/
theorem test_syncByte1_chained :
    (nextOf (exec .syncByte1 { small .seekingSync 5 (fed [0x62]) with att := 1, midx := true, chain := true })).map
      (fun t => (t.st, t.att)) = some (.readingHeader, 5) := by decide
/-- 42_sync.md R164: `B5` at `midx = 1` is a mismatch and starts no new match. -/
theorem test_mismatch_b5 :
    (nextOf (exec (.syncMismatch 0xB5) { small .seekingSync 5 (fed [0xB5, 0x62]) with midx := true })).map
      (fun t => (t.st, t.midx, t.chan)) = some (.seekingSync, false, [some 0x62]) := by decide
/-- 40_frame_checksum.md R127: the frame `12 34` with payload `01 02 03`. -/
theorem test_frame_received :
    (nextOf (exec (.frame 0x12 0x34 3)
      { small .seekingSync 4 (fed [0xB5, 0x62, 0x12, 0x34, 3, 0, 1, 2, 3, 0x4F, 0xCF]) with chain := true })).map
      (fun t => (t.st, t.ckA, t.ckB, frameOf t)) = some (.done, 0x4F, 0xCF, some ⟨0x12, 0x34, [1, 2, 3]⟩) := by decide
/-- 43_read_frame.md R196: a length above the budget cannot be received. -/
theorem test_frame_above_the_budget :
    (nextOf (exec (.frame 0x12 0x34 3)
      { small .seekingSync 2 (fed [0xB5, 0x62, 0x12, 0x34, 3, 0, 1, 2, 3, 0x4F, 0xCF]) with chain := true })).map
      (fun t => (t.st, t.err, t.cnt, t.chan)) = some (.failed, .readTimeout, 2, fed [3, 0x4F, 0xCF]) := by decide
/-- 40_frame_checksum.md R127: the poll request. -/
theorem test_nav5Cfg_received :
    (nextOf (exec (.nav5Cfg 0)
      { small .seekingSync 2 (fed [0xB5, 0x62, 0x06, 0x24, 0, 0, 0x2A, 0x84, 0xB5]) with chain := true })).map
      (fun t => (frameOf t, t.chan)) = some (some ⟨0x06, 0x24, []⟩, [some 0xB5]) := by decide
/-- 30_encoding.md R96: 13 payload bytes; all of them 0, so the checksum is that of the first four bytes followed by 13
zero bytes: `06 0F 1C 1C` sums to `1C` and `4D`, and `4D + 13 * 1C` is `B9` modulo 256. -/
theorem test_cfgSave_received :
    (nextOf (exec .cfgSave
      { small .seekingSync 13
          (fed [0xB5, 0x62, 0x06, 0x09, 13, 0, 0, 0, 0, 0, 0, 0, 0, 0, 0, 0, 0, 0, 0, 0x1C, 0xB9]) with
        chain := true })).map (fun t => (t.st, t.len)) = some (.done, 13) := by decide
/-- 40_frame_checksum.md R127: the acknowledgement of `NAV5_CFG`. -/
theorem test_ackAck_received :
    (nextOf (exec .ackAck
      { small .seekingSync 16 (fed [0xB5, 0x62, 0x05, 0x01, 2, 0, 0x06, 0x24, 0x32, 0x5B]) with chain := true })).map
      (fun t => (t.st, t.rxA, t.rxB, frameOf t)) = some (.done, 0x32, 0x5B, some ⟨0x05, 0x01, [0x06, 0x24]⟩) := by decide
/-- 43_read_frame.md R189: `5A` in place of `5B`. -/
theorem test_ackAck_rejected :
    (nextOf (exec .ackAck
      { small .seekingSync 16 (fed [0xB5, 0x62, 0x05, 0x01, 2, 0, 0x06, 0x24, 0x32, 0x5A]) with chain := true })).map
      (fun t => (t.st, t.err, t.rxB, frameOf t)) = some (.failed, .checksumMismatch, 0x5A, none) := by decide

/-! ## Witnesses: the hypotheses of each statement, met together -/

/-- A state with its next host action. -/
def driven (rst : Bool) (cmd : BitVec 2) (s : State) : State := { s with host := [.drive rst cmd 0] }

/-- The same, under `WAIT`. -/
def waiting (s : State) : State := { s with host := [.wait] }

/-- `DONE` after the frame of class 5, id 1 and payload `06 24` (40_frame_checksum.md R127). -/
def doneState : State :=
  { small .done 4 [] with
    cls := 5, id := 1, len := 2, ckA := 0x32, ckB := 0x5B, rxA := 0x32, rxB := 0x5B,
    pbuf := [(0, 0x06), (1, 0x24)] }

/-- `READING_PAYLOAD` at the last of the 65535 bytes the length field can name; no invariant is claimed of it. -/
def lastPayload : State := { small .readingPayload 1 [some 7] with len := 65535, cnt := 65534 }

/-- `READING_PAYLOAD`, the first of two bytes to come, one attempt left: class 5, id 1. -/
def firstPayload : State :=
  { small .readingPayload 1 [some 6] with cls := 5, id := 1, len := 2, ckA := 0x08, ckB := 0x1B }

/-- A chained search with a whole frame before it and the least budget it needs. -/
def beforeFrame (bs : List Byte) : State := { small .seekingSync 2 (fed bs) with chain := true }

theorem inv_header : Inv (driven false 0 (small .readingHeader 1 [some 5])) :=
  ⟨by decide, by decide, by decide, by decide, by decide, by decide, by decide, by decide, by decide⟩
theorem inv_payload : Inv firstPayload :=
  ⟨by decide, by decide, by decide, by decide, by decide, by decide, by decide, by decide, by decide⟩
theorem inv_done : Inv (driven false 2 doneState) :=
  ⟨by decide, by decide, by decide, by decide, by decide, by decide, by decide, by decide, by decide⟩
theorem inv_failed : Inv failedState :=
  ⟨by decide, by decide, by decide, by decide, by decide, by decide, by decide, by decide, by decide⟩
theorem inv_search : Inv (small .seekingSync 1 []) :=
  ⟨by decide, by decide, by decide, by decide, by decide, by decide, by decide, by decide, by decide⟩
theorem inv_header_empty : Inv (small .readingHeader 1 []) :=
  ⟨by decide, by decide, by decide, by decide, by decide, by decide, by decide, by decide, by decide⟩

theorem witness_DecodeReadsBackEveryEncoding :
    wellFormed .cmd .recv = true ∧ wellFormed (.marker false) .syncByte0 = true ∧
      wellFormed (.marker true) (.syncMismatch 0xB5) = true ∧ wellFormed .wire (.frame 0xFF 0xFF 65535) = true ∧
      wellFormed .wire (.nav5Cfg 0) = true := by decide
theorem witness_EncodeWritesBackEveryDecodedWord :
    decode .wire [0xB5, 0x62, 6, 9, 12, 0, 7] = .ok (.frame 6 9 12, [7]) ∧ decode .cmd [3] = .ok (.recv, []) := ⟨rfl, rfl⟩
theorem witness_DecodeRejectsByName :
    4 ≤ (4 : Byte).toNat ∧ ¬((0xB5 : Byte) = 0xB5 ∧ (0x63 : Byte) = 0x62) ∧ ([0xB5, 0x62, 6, 9, 12] : List Byte).length < 6 := by
  decide
theorem witness_StateAndErrorCodes :
    9 ≤ (9 : BitVec 4).toNat ∧ 9 ≤ (15 : BitVec 4).toNat ∧ 5 ≤ (5 : BitVec 3).toNat ∧ 5 ≤ (7 : BitVec 3).toNat := by decide
theorem witness_StepRunsDecodedInstruction_rest :
    1 ≤ (driven false 3 (small .idle 1 [])).budget ∧ (driven false 3 (small .idle 1 [])).busy = false ∧
      decode .cmd [(3 : BitVec 2).setWidth 8] = .ok (.recv, []) := ⟨by decide, by decide, rfl⟩
theorem witness_StepRunsDecodedInstruction_search :
    (driven false 0 (small .seekingSync 1 [some 0xB5])).st = .seekingSync ∧
      (driven false 0 (small .seekingSync 1 [some 0xB5])).response = some 0xB5 ∧
      decode (.marker false) [0xB5] = .ok (.syncByte0, []) := ⟨rfl, rfl, rfl⟩
theorem witness_StepRunsDecodedInstruction_busy :
    (driven false 0 (small .seekingSync 1 [none])).busy = true ∧
      (driven false 0 (small .seekingSync 1 [none])).response = none ∧
      (driven false 0 (small .readingHeader 1 [])).busy = true := by decide
theorem witness_StepRunsDecodedInstruction_wait :
    (waiting (beforeFrame [0xB5, 0x62, 5, 1, 2, 0, 6])).midx = false ∧
      decode .wire (headBytes 6 (waiting (beforeFrame [0xB5, 0x62, 5, 1, 2, 0, 6])).chan) = .ok (.ackAck, []) ∧
      (waiting (small .readingLength 1 [])).st ≠ .seekingSync ∧ State.reset.host = [] := ⟨rfl, rfl, by decide, rfl⟩
theorem witness_CommandsAreIgnoredWhileBusy :
    1 ≤ (driven false 2 lastPayload).budget ∧ (driven false 2 lastPayload).busy = true ∧
      wellFormed .cmd .read = true := by decide
theorem witness_ResetStepClearsTheRegisters :
    1 ≤ (driven true 3 firstPayload).budget ∧ (driven true 3 firstPayload).host = [.drive true 3 0] := by decide
theorem witness_ZeroBudgetIsRefused : (small .idle 0 []).budget = 0 := rfl
theorem witness_InvariantStatesAlwaysGoOn : Inv firstPayload := inv_payload
theorem witness_EveryStepKeepsTheInvariant :
    Inv (driven false 0 (small .readingHeader 1 [some 5])) ∧
      ∃ t, step (driven false 0 (small .readingHeader 1 [some 5])) = .next t := ⟨inv_header, _, rfl⟩
theorem witness_ResetStepEstablishesTheInvariant :
    1 ≤ (driven true 0 lastPayload).budget ∧ (driven true 0 lastPayload).pbuf.wf ∧
      (driven true 0 lastPayload).host = [.drive true 0 0] := by decide
theorem witness_NoneAtRestChangesNothing :
    State.reset.busy = false ∧ doneState.busy = false ∧ firstPayload.busy = true := by decide
theorem witness_SyncStartsASearch : (small .synced 1 []).busy = false := by decide
theorem witness_RecvStartsAChainedSearch : failedState.busy = false := by decide
theorem witness_ReadFromSyncedBeginsAFrameRead : (small .synced 1 []).st = .synced := rfl
theorem witness_ReadOutsideSyncedFails : doneState.st = .idle ∨ doneState.st = .done ∨ doneState.st = .failed := by decide
theorem witness_EmptyPollKeepsTheMatch :
    (small .seekingSync 1 []).st = .seekingSync ∧ (small .seekingSync 1 []).response = none := by decide
theorem witness_FirstMarkerByteAdvances :
    (small .seekingSync 1 [some 0xB5]).st = .seekingSync ∧ (small .seekingSync 1 [some 0xB5]).midx = false ∧
      (small .seekingSync 1 [some 0xB5]).chan = some 0xB5 :: [] := by decide
theorem witness_SecondMarkerByteFindsTheFrame :
    { small .seekingSync 1 [some 0x62] with midx := true }.st = .seekingSync ∧
      { small .seekingSync 1 [some 0x62] with midx := true }.midx = true ∧
      { small .seekingSync 1 [some 0x62] with midx := true, chain := true }.chain = true ∧
      { small .seekingSync 1 [some 0x62] with midx := true }.chan = some 0x62 :: [] := by decide
theorem witness_MismatchDiscardsTheByte :
    ((small .seekingSync 1 [some 0x62]).midx = false ∧ (0x62 : Byte) ≠ 0xB5) ∧
      ({ small .seekingSync 1 [some 0xB5] with midx := true }.midx = true ∧ (0xB5 : Byte) ≠ 0x62) := by decide
theorem witness_BytesWaitWhileAtRest :
    (small .synced 1 (fed [0xB5])).busy = false ∧ wellFormed (.marker false) .syncByte0 = true ∧
      (small .synced 1 (fed [0xB5])).chan = (encode .syncByte0).map some ++ [] ∧ wellFormed .wire .cfgSave = true := by
  decide
theorem witness_MarkerAfterARunIsFoundIffOdd : (0 < 1 ∧ 0 % 2 ≠ 1) ∧ (1 < 2 ∧ 1 % 2 = 1) := by decide
theorem witness_SearchComputesSyncToFrame :
    (1 ≤ doneState.budget ∧ doneState.busy = false) ∧
      (syncToFrame 2 false (fed [0xB5, 0x62])).1 = true ∧ (syncToFrame 1 false (fed [0xB5, 0x62])).1 = false := by decide
theorem witness_HeaderBytesAreStored :
    (small .readingHeader 1 [some 6]).cnt = 0 ∧ { small .readingHeader 1 [some 6] with cnt := 1 }.cnt = 1 ∧
      (small .readingHeader 1 [some 6]).chan = some 6 :: [] := by decide
theorem witness_LengthBytesAreAssembled :
    { small .readingLength 1 [some 0] with cnt := 1 }.cnt = 1 ∧ (0 : Half).toNat = (0 : Half).toNat % 256 + 256 * (0 : Byte).toNat ∧
      (65535 : Half).toNat = (255 : Half).toNat % 256 + 256 * (255 : Byte).toNat ∧ (small .readingLength 1 [some 0]).cnt = 0 := by
  decide
theorem witness_PayloadByteIsStored :
    (lastPayload.st = .readingPayload ∧ lastPayload.cnt.toNat < lastPayload.len.toNat ∧ lastPayload.chan = some 7 :: [] ∧
      lastPayload.cnt.toNat + 1 = lastPayload.len.toNat) ∧
    (firstPayload.cnt.toNat < firstPayload.len.toNat ∧ firstPayload.cnt.toNat + 1 ≠ firstPayload.len.toNat ∧
      firstPayload.chan = some 6 :: []) := by decide
theorem witness_ChecksumBytesAreCompared :
    (small .readingChecksum 1 [some 0]).cnt = 0 ∧ { small .readingChecksum 1 [some 0] with cnt := 1 }.cnt = 1 ∧
      (small .readingChecksum 1 [some 0]).rxA = (small .readingChecksum 1 [some 0]).ckA ∧ (0 : Byte) = (small .readingChecksum 1 [some 0]).ckB := by
  decide
theorem witness_EmptyPollWaitsInARead :
    (small .readingChecksum 1 []).st = .readingChecksum ∧ (small .readingChecksum 1 []).response = none := by decide
theorem witness_TimeoutExactlyWhenExhausted :
    Inv (small .readingHeader 1 []) ∧ (small .readingHeader 1 []).st.reading = true ∧ (small .readingHeader 1 []).att = 1 ∧
      ∃ t, exec .none (small .readingHeader 1 []) = .next t := ⟨inv_header_empty, by decide, rfl, _, rfl⟩
theorem witness_ReadComputesReadFrame :
    1 ≤ (small .synced 1 []).budget ∧ (small .synced 1 []).st = .synced := by decide
theorem witness_RecvComputesRecvFrame : 1 ≤ failedState.budget ∧ failedState.busy = false := by decide
theorem witness_RecvIsSyncThenRead : 1 ≤ State.reset.budget ∧ State.reset.busy = false := by decide
theorem witness_SerializedFrameIsReceived :
    (⟨0x06, 0x24, []⟩ : Frame).fits = true ∧
      { State.reset with budget := 3, chan := [some 0xB5, none, some 0x62] ++ fed [6, 0x24] ++ fed [0, 0] ++ [] ++ fed [0x2A, 0x84] }.busy =
        false ∧
      delivers 3 [0xB5, 0x62] [some 0xB5, none, some 0x62] ∧ delivers 3 [6, 0x24] (fed [6, 0x24]) ∧
      delivers 3 [0, 0] (fed [0, 0]) ∧ delivers 3 [] [] ∧
      delivers 3 [(frameCk ⟨0x06, 0x24, []⟩).1, (frameCk ⟨0x06, 0x24, []⟩).2] (fed [0x2A, 0x84]) := by
  unfold delivers
  decide
theorem witness_FrameRowsReceiveTheWholeFrame :
    frameHeader .ackAck = some (5, 1, 2) ∧ ([6, 0x24] : List Byte).length = (2 : Half).toNat ∧
      (beforeFrame [0xB5, 0x62, 5, 1, 2, 0, 6, 0x24, 0x32, 0x5B]).st = .seekingSync ∧
      2 ≤ (beforeFrame [0xB5, 0x62, 5, 1, 2, 0, 6, 0x24, 0x32, 0x5B]).att ∧
      (2 : Half).toNat ≤ (beforeFrame [0xB5, 0x62, 5, 1, 2, 0, 6, 0x24, 0x32, 0x5B]).budget ∧
      (beforeFrame [0xB5, 0x62, 5, 1, 2, 0, 6, 0x24, 0x32, 0x5B]).chan =
        (encode .ackAck ++ [6, 0x24] ++ [0x32, 0x5B]).map some ++ [] ∧
      ((0x32, 0x5B) : Byte × Byte) = checksum (coveredBytes 5 1 2 [6, 0x24]) ∧
      ((0x32, 0x5A) : Byte × Byte) ≠ checksum (coveredBytes 5 1 2 [6, 0x24]) := by decide
theorem witness_WaitIsIteratedNoneSteps :
    (waiting (small .readingHeader 1 [])).host = [.wait] ∧ ∃ t, step (waiting (small .readingHeader 1 [])) = .next t :=
  ⟨rfl, _, rfl⟩
theorem witness_EveryOperationComesToRest : Inv (small .seekingSync 1 []) := inv_search
theorem witness_TransitionsAreTheTable :
    (driven true 1 firstPayload).host = [.drive true 1 0] ∧ (∃ t, step (driven true 1 firstPayload) = .next t) ∧
      (driven false 2 doneState).host = [.drive false 2 0] ∧ ∃ t, step (driven false 2 doneState) = .next t :=
  ⟨rfl, ⟨_, rfl⟩, rfl, _, rfl⟩
theorem witness_PollsTakeTheChannelInOrder :
    (driven false 0 firstPayload).host = [.drive false 0 0] ∧ (∃ t, step (driven false 0 firstPayload) = .next t) ∧
      (small .seekingSync 1 []).chan = [] ∧ firstPayload.chan = some 6 :: [] := ⟨rfl, ⟨_, rfl⟩, rfl, rfl⟩
theorem witness_OnlyPayloadBytesWriteTheBuffer :
    ∃ t, step (driven false 0 firstPayload) = .next t ∧ firstPayload.st = .readingPayload ∧ firstPayload.response ≠ none :=
  ⟨_, rfl, rfl, by decide⟩
theorem witness_RegistersHaveTheirWriters :
    ∃ t, step (driven false 1 doneState) = .next t ∧ t.st ≠ doneState.st := ⟨_, rfl, by decide⟩
theorem witness_SerializeIsInjective : (⟨1, 2, [3]⟩ : Frame).fits = true ∧ (⟨1, 2, []⟩ : Frame).fits = true := by decide
theorem witness_SingleBitErrorsAreRejected :
    (⟨5, 1, [6, 0x25]⟩ : Frame).fits = true ∧ (small .idle 2 []).busy = false ∧ 2 ≤ (small .idle 2 []).budget ∧
      oneBitFlipped ⟨5, 1, [6, 0x24]⟩ ⟨5, 1, [6, 0x25]⟩ ∧ ((0x32, 0x5B) : Byte × Byte) = frameCk ⟨5, 1, [6, 0x24]⟩ ∧
      ((0x32, 0x5A) : Byte × Byte) ≠ frameCk ⟨5, 1, [6, 0x24]⟩ :=
  ⟨by decide, by decide, by decide, ⟨0, by decide, .inr (.inr ⟨[6], 0x24, [], rfl, by decide⟩)⟩, by decide, by decide⟩
/-- 10_state.md R32 and 70_reset_and_hazards.md R270: in a reset step of a busy state the status output is 1 and nothing is
polled. -/
theorem test_rx_ready_in_a_reset_step :
    (driven true 0 firstPayload).rxReady = true ∧ (driven true 0 firstPayload).rxReadyNow = false := by decide
/-- 10_state.md R35: the outcomes after `SYNC`, after a frame read, after a failure and before any operation. -/
theorem test_endings :
    [small .synced 1 [], doneState, failedState, State.reset].map endingOf =
      [some .synced, some (.frame ⟨5, 1, [0x06, 0x24]⟩), some (.failed .readTimeout), none] := by decide
theorem witness_PortsReadAsMapped :
    doneState.st = .done ∧ (1 : Half).toNat < doneState.len.toNat ∧ doneState.len.toNat ≤ (2 : Half).toNat ∧
      doneState.pbuf.read 1 = some 0x24 ∧ { doneState with pbuf := [(0, 6)] }.pbuf.read 1 = none ∧ failedState.st ≠ .done := by
  decide
theorem witness_HiddenRegistersDoNotShow :
    doneState.st = { doneState with ckA := 0, att := 3 }.st ∧ doneState.err = { doneState with ckA := 0, att := 3 }.err ∧
      ∀ k < doneState.len.toNat, doneState.pbuf.read k = { doneState with ckA := 0, att := 3 }.pbuf.read k := by decide
theorem witness_DoneShowsAValidFrame :
    Inv (driven false 2 doneState) ∧ (driven false 2 doneState).st = .done ∧ (1 : Half).toNat < doneState.len.toNat ∧
      Inv failedState ∧ failedState.st ≠ .done := ⟨inv_done, rfl, by decide, inv_failed, by decide⟩

end Sys2Proof.Tests
end

section
/-! PROOF. The scope's parameter condition (00_scope.md R5). -/

namespace Sys2Proof.Machine.Laws

/-- The other branch of `step_of_budget`: the parameter is checked before the host's action is looked at. -/
theorem step_of_budget_zero {s : State} (hb : s.budget = 0) : step s = .refused .budgetZero := by
  rw [step, cycle, if_pos hb]

/-- Settles O12: the refusing branch of the step, whatever the host presents. -/
theorem zeroBudgetIsRefused : Obligations.ZeroBudgetIsRefused :=
  fun _ hb => step_of_budget_zero hb

end Sys2Proof.Machine.Laws
end

section
/-! PROOF. The invariants of 10_state.md R36: what establishes them in each kind of state, what keeps them, and that every
step does; and what they give the host in `DONE`. -/

namespace Sys2Proof.Machine.Laws

/-! ## The checksum and the length field -/

theorem checksum_snoc (bs : List Byte) (b : Byte) : checksum (bs ++ [b]) = ckStep (checksum bs) b := by
  simp [checksum]

@[simp] theorem lowByte_setWidth (b : Byte) : lowByte (b.setWidth 16) = b := by
  simp [lowByte]

@[simp] theorem lowByte_joinBytes (lo hi : Byte) : lowByte (joinBytes lo hi) = lo := by
  apply BitVec.eq_of_toNat_eq
  simp only [lowByte, joinBytes, BitVec.toNat_setWidth, BitVec.toNat_ofNat]
  omega

@[simp] theorem highByte_joinBytes (lo hi : Byte) : highByte (joinBytes lo hi) = hi := by
  apply BitVec.eq_of_toNat_eq
  simp only [highByte, joinBytes, BitVec.toNat_setWidth, BitVec.toNat_ushiftRight, BitVec.toNat_ofNat,
    Nat.shiftRight_eq_div_pow]
  omega

/-! ## The bytes the accumulators cover, state by state -/

theorem coveredSoFar_readingHeader {s : State} (h : s.st = .readingHeader) :
    coveredSoFar s = some (if s.cnt = 0 then [] else [s.cls]) := by simp [coveredSoFar, h]

theorem coveredSoFar_readingLength {s : State} (h : s.st = .readingLength) :
    coveredSoFar s = some ([s.cls, s.id] ++ if s.cnt = 0 then [] else [lowByte s.len]) := by simp [coveredSoFar, h]

theorem coveredSoFar_readingPayload {s : State} (h : s.st = .readingPayload) :
    coveredSoFar s = (s.pbuf.readFrom 0 s.cnt.toNat).map (coveredBytes s.cls s.id s.len) := by simp [coveredSoFar, h]

theorem coveredSoFar_readingChecksum {s : State} (h : s.st = .readingChecksum) :
    coveredSoFar s = (payloadOf s).map (coveredBytes s.cls s.id s.len) := by simp [coveredSoFar, h]

theorem coveredSoFar_done {s : State} (h : s.st = .done) :
    coveredSoFar s = (payloadOf s).map (coveredBytes s.cls s.id s.len) := by simp [coveredSoFar, h]

/-- The phase after the length has covered class, id and length, whichever of the two it is. -/
theorem coveredSoFar_afterLength {s : State} (h : s.st = afterLength s.len) (hc : s.cnt = 0) :
    coveredSoFar s = some (coveredBytes s.cls s.id s.len []) := by
  unfold afterLength at h
  split at h
  · next hl => simp [coveredSoFar_readingChecksum h, payloadOf, hl, Memory.readFrom]
  · simp [coveredSoFar_readingPayload h, hc, Memory.readFrom]

theorem coveredBytes_snoc (cls msgId : Byte) (len : Half) (p : List Byte) (b : Byte) :
    coveredBytes cls msgId len (p ++ [b]) = coveredBytes cls msgId len p ++ [b] := by
  simp [coveredBytes]

/-- The accumulators are the checksum of what they cover (10_state.md R36 items 7 and 8). -/
def Covers (bs : List Byte) (s : State) : Prop := checksum bs = (s.ckA, s.ckB)

/-- `ck_update` keeps the accumulators at the checksum of one byte more (40_frame_checksum.md R122). -/
theorem Covers.snoc {bs : List Byte} {s t : State} {b : Byte} (h : Covers bs s) (hA : t.ckA = s.ckA + b)
    (hB : t.ckB = s.ckB + (s.ckA + b)) : Covers (bs ++ [b]) t := by
  unfold Covers at h ⊢
  rw [checksum_snoc, h, hA, hB]
  rfl

/-! ## What the invariants give -/

theorem inv_err_none {s : State} (h : Inv s) (hs : s.st ≠ .failed) : s.err = .none :=
  not_not.1 (mt h.failed_iff.2 hs)

/-- In a read phase and in `DONE` the covered bytes exist, and the accumulators are their checksum. -/
theorem inv_covers {s : State} (h : Inv s) (hs : s.st.reading = true ∨ s.st = .done) :
    ∃ bs, coveredSoFar s = some bs ∧ Covers bs s :=
  Option.map_eq_some_iff.1 (h.covered hs)

theorem inv_covers_of_eq {s : State} {bs : List Byte} (h : Inv s) (hs : s.st.reading = true)
    (hc : coveredSoFar s = some bs) : Covers bs s := by
  obtain ⟨_, hbs, hk⟩ := inv_covers h (.inl hs)
  cases hc.symm.trans hbs
  exact hk

theorem inv_covers_readingPayload {s : State} (h : Inv s) (hs : s.st = .readingPayload) :
    ∃ p, s.pbuf.readFrom 0 s.cnt.toNat = some p ∧ Covers (coveredBytes s.cls s.id s.len p) s := by
  obtain ⟨_, hbs, hk⟩ := inv_covers h (.inl (by rw [hs]; rfl))
  rw [coveredSoFar_readingPayload hs] at hbs
  obtain ⟨p, hp, rfl⟩ := Option.map_eq_some_iff.1 hbs
  exact ⟨p, hp, hk⟩

/-- Once the payload is complete its cells are all written, and the accumulators cover the whole frame. -/
theorem inv_covers_frame {s : State} (h : Inv s) (hs : s.st = .readingChecksum ∨ s.st = .done) :
    ∃ p, payloadOf s = some p ∧ Covers (coveredBytes s.cls s.id s.len p) s := by
  obtain ⟨_, hbs, hk⟩ := inv_covers h (hs.imp (fun hs => by rw [hs]; rfl) id)
  rw [hs.elim coveredSoFar_readingChecksum coveredSoFar_done] at hbs
  obtain ⟨p, hp, rfl⟩ := Option.map_eq_some_iff.1 hbs
  exact ⟨p, hp, hk⟩

/-! ## What gives the invariants, for each kind of state -/

theorem inv_of_rest {s : State} (hb : 1 ≤ s.budget) (hw : s.pbuf.wf) (hs : s.st = .idle ∨ s.st = .synced)
    (he : s.err = .none) : Inv s where
  budget_pos := hb
  buffer_wf := hw
  att_range h := by rcases hs with hs | hs <;> simp [State.busy, St.busy, hs] at h
  failed_iff := by rcases hs with hs | hs <;> simp [hs, he]
  search_cnt h := by simp [h] at hs
  pair_cnt h := by rcases hs with hs | hs <;> simp [hs] at h
  payload_cnt h := by simp [h] at hs
  covered h := by rcases hs with hs | hs <;> simp [St.reading, St.busy, hs] at h
  done_checksum h := by simp [h] at hs

theorem inv_of_search {s : State} (hb : 1 ≤ s.budget) (hw : s.pbuf.wf) (hs : s.st = .seekingSync)
    (ha : 1 ≤ s.att ∧ s.att ≤ s.budget) (he : s.err = .none) (hc : s.cnt = 0) : Inv s where
  budget_pos := hb
  buffer_wf := hw
  att_range _ := ha
  failed_iff := by simp [hs, he]
  search_cnt _ := hc
  pair_cnt h := by simp [hs] at h
  payload_cnt h := by simp [hs] at h
  covered h := by simp [St.reading, hs] at h
  done_checksum h := by simp [hs] at h

theorem inv_of_reading {s : State} {bs : List Byte} (hb : 1 ≤ s.budget) (hw : s.pbuf.wf) (hs : s.st.reading = true)
    (ha : 1 ≤ s.att ∧ s.att ≤ s.budget) (he : s.err = .none) (hp : s.st ≠ .readingPayload → s.cnt = 0 ∨ s.cnt = 1)
    (hq : s.st = .readingPayload → s.cnt.toNat < s.len.toNat) (hc : coveredSoFar s = some bs) (hk : Covers bs s) :
    Inv s where
  budget_pos := hb
  buffer_wf := hw
  att_range _ := ha
  failed_iff := by
    refine ⟨fun h => ?_, fun h => absurd he h⟩
    simp [St.reading, St.busy, h] at hs
  search_cnt h := by simp [St.reading, h] at hs
  pair_cnt h := hp (by rcases h with h | h | h <;> simp [h])
  payload_cnt := hq
  covered _ := by rw [hc, Option.map_some, hk]
  done_checksum h := by simp [St.reading, St.busy, h] at hs

theorem inv_of_done {s : State} {bs : List Byte} (hb : 1 ≤ s.budget) (hw : s.pbuf.wf) (hs : s.st = .done)
    (he : s.err = .none) (hc : coveredSoFar s = some bs) (hk : Covers bs s) (hv : s.rxA = s.ckA ∧ s.rxB = s.ckB) :
    Inv s where
  budget_pos := hb
  buffer_wf := hw
  att_range h := by simp [State.busy, St.busy, hs] at h
  failed_iff := by simp [hs, he]
  search_cnt h := by simp [hs] at h
  pair_cnt h := by simp [hs] at h
  payload_cnt h := by simp [hs] at h
  covered _ := by rw [hc, Option.map_some, hk]
  done_checksum _ := hv

/-- The failure entry asks nothing of the registers it leaves as they are (60_exceptions.md R245). -/
theorem inv_fail {k : Err} {s : State} (hb : 1 ≤ s.budget) (hw : s.pbuf.wf) (hk : k ≠ .none) : Inv (fail k s) where
  budget_pos := hb
  buffer_wf := hw
  att_range h := by simp at h
  failed_iff := by simp [hk]
  search_cnt h := by simp at h
  pair_cnt h := by simp at h
  payload_cnt h := by simp at h
  covered h := by simp [St.reading, St.busy] at h
  done_checksum h := by simp at h

/-- With the exhaustion test at its end, a rule has to give the invariants only where attempts are left. -/
theorem inv_orTimeout {k : Err} {s : State} (hb : 1 ≤ s.budget) (hw : s.pbuf.wf) (hk : k ≠ .none)
    (h : s.att ≠ 0 → Inv s) : Inv (orTimeout k s) := by
  rcases orTimeout_cases k s with ⟨_, hs⟩ | ⟨ha, hs⟩
  · rw [hs]; exact inv_fail hb hw hk
  · rw [hs]; exact h ha

theorem inv_resetRegs {s : State} (hb : 1 ≤ s.budget) (hw : s.pbuf.wf) : Inv (resetRegs s) :=
  inv_of_rest hb hw (.inl rfl) rfl

/-- No invariant is about the channel (10_state.md R37). -/
theorem inv_offer {s : State} (h : Inv s) (bs : List Byte) : Inv (s.offer bs) :=
  ⟨h.budget_pos, h.buffer_wf, h.att_range, h.failed_iff, h.search_cnt, h.pair_cnt, h.payload_cnt, h.covered,
    h.done_checksum⟩

/-- No invariant is about the host's actions (10_state.md R37). -/
theorem inv_popHost {s : State} (h : Inv s) : Inv s.popHost :=
  ⟨h.budget_pos, h.buffer_wf, h.att_range, h.failed_iff, h.search_cnt, h.pair_cnt, h.payload_cnt, h.covered,
    h.done_checksum⟩

/-! ## The commands keep the invariants -/

theorem inv_startSearch {s : State} (h : Inv s) (c : Bool) : Inv (startSearch c s) :=
  inv_of_search h.budget_pos h.buffer_wf rfl ⟨h.budget_pos, le_refl _⟩ rfl rfl

/-- A frame read begins with nothing covered (41_step_commands.md R147). -/
theorem inv_beginRead {s : State} (hb : 1 ≤ s.budget) (hw : s.pbuf.wf) (he : s.err = .none) : Inv (beginRead s) :=
  inv_of_reading (bs := []) hb hw rfl ⟨hb, le_refl _⟩ he (fun _ => .inl rfl) (fun h => by simp at h)
    (coveredSoFar_readingHeader rfl) rfl

theorem inv_acceptRead {s : State} (h : Inv s) : Inv (acceptRead s) := by
  unfold acceptRead
  split
  · exact inv_beginRead h.budget_pos h.buffer_wf rfl
  · exact inv_fail h.budget_pos h.buffer_wf (by decide)

/-! ## The polls keep the invariants -/

/-- A poll in a state of the invariant leaves at most `BUDGET` attempts. -/
theorem polled_att_range {s : State} (h : Inv s) (hb : s.busy = true) (ha : (polled s).att ≠ 0) :
    1 ≤ (polled s).att ∧ (polled s).att ≤ s.budget := by
  have := h.att_range hb
  rw [polled_att] at ha ⊢
  omega

/-- A poll with attempts left, before anything is done with its response. -/
theorem inv_polled {s : State} (h : Inv s) (hb : s.busy = true) (ha : (polled s).att ≠ 0) : Inv (polled s) :=
  ⟨h.budget_pos, h.buffer_wf, fun _ => polled_att_range h hb ha, h.failed_iff, h.search_cnt, h.pair_cnt, h.payload_cnt,
    h.covered, h.done_checksum⟩

theorem busy_of_reading {s : State} (h : s.st.reading = true) : s.busy = true := by
  simp only [St.reading, Bool.and_eq_true] at h
  exact h.1

/-- The next payload byte, stored at `cnt`, is covered after those before it (43_read_frame.md R187). -/
theorem readFrom_storeCell {s : State} {p : List Byte} (b : Byte) (h : s.pbuf.readFrom 0 s.cnt.toNat = some p) :
    (storeCell s.cnt.toNat b s).pbuf.readFrom 0 (s.cnt.toNat + 1) = some (p ++ [b]) := by
  have := readFrom_write_next s.pbuf 0 s.cnt.toNat b p h
  rwa [Nat.zero_add] at this

theorem inv_classStored {s : State} (hi : Inv s) (hs : s.st = .readingHeader) (hc : s.cnt = 0)
    (ha : (polled s).att ≠ 0) (b : Byte) : Inv (classStored b (polled s)) := by
  have he : s.err = .none := inv_err_none hi (by simp [hs])
  have hr : s.st.reading = true := by rw [hs]; rfl
  have hk : Covers [] s := inv_covers_of_eq hi hr (by rw [coveredSoFar_readingHeader hs, if_pos hc])
  exact inv_of_reading hi.budget_pos hi.buffer_wf hr (polled_att_range hi (busy_of_reading hr) ha)
    he (fun _ => .inr rfl) (fun h => by simp [hs] at h) (coveredSoFar_readingHeader hs)
    (hk.snoc rfl rfl)

theorem inv_idStored {s : State} (hi : Inv s) (hs : s.st = .readingHeader) (hc : s.cnt = 1) (b : Byte) :
    Inv (idStored b (polled s)) := by
  have he : s.err = .none := inv_err_none hi (by simp [hs])
  have hk : Covers [s.cls] s :=
    inv_covers_of_eq hi (by rw [hs]; rfl) (by rw [coveredSoFar_readingHeader hs, hc]; rfl)
  exact inv_of_reading hi.budget_pos hi.buffer_wf rfl ⟨hi.budget_pos, le_refl _⟩ he
    (fun _ => .inl rfl) (fun h => by simp at h) (coveredSoFar_readingLength rfl) (hk.snoc rfl rfl)

theorem inv_lengthLowStored {s : State} (hi : Inv s) (hs : s.st = .readingLength) (hc : s.cnt = 0)
    (ha : (polled s).att ≠ 0) (b : Byte) : Inv (lengthLowStored b (polled s)) := by
  have he : s.err = .none := inv_err_none hi (by simp [hs])
  have hr : s.st.reading = true := by rw [hs]; rfl
  have hk : Covers [s.cls, s.id] s := inv_covers_of_eq hi hr (by rw [coveredSoFar_readingLength hs, if_pos hc]; rfl)
  refine inv_of_reading (bs := [s.cls, s.id, b]) hi.budget_pos hi.buffer_wf hr
    (polled_att_range hi (busy_of_reading hr) ha) he (fun _ => .inr rfl)
    (fun h => by simp [hs] at h) ?_ (hk.snoc rfl rfl)
  rw [coveredSoFar_readingLength (s := lengthLowStored b (polled s)) hs]
  simp

/-- The two length bytes are covered as they came, and they are the halves of the length assembled from them
(30_encoding.md R91, 43_read_frame.md R185, R186). -/
theorem inv_lengthStored {s : State} (hi : Inv s) (hs : s.st = .readingLength) (hc : s.cnt = 1) (b : Byte) :
    Inv (lengthStored (joinBytes (lowByte s.len) b) b (polled s)) := by
  have he : s.err = .none := inv_err_none hi (by simp [hs])
  have hk : Covers [s.cls, s.id, lowByte s.len] s :=
    inv_covers_of_eq hi (by rw [hs]; rfl) (by rw [coveredSoFar_readingLength hs, hc]; rfl)
  generalize hl : joinBytes (lowByte s.len) b = len
  have hcov := coveredSoFar_afterLength (s := lengthStored len b (polled s)) rfl rfl
  refine inv_of_reading hi.budget_pos hi.buffer_wf ?_ ⟨hi.budget_pos, le_refl _⟩ he
    (fun _ => .inl rfl) (fun h => ?_) hcov ?_
  · rw [lengthStored_st, afterLength]
    split <;> rfl
  · rw [lengthStored_st, afterLength] at h
    split at h
    · cases h
    · next h0 =>
      rw [lengthStored_len, lengthStored_cnt]
      exact (BitVec.pos_iff_ne_zero _).2 h0
  · have := hk.snoc (t := lengthStored len b (polled s)) (b := b) rfl rfl
    simpa [coveredBytes, ← hl] using this

theorem inv_payloadStored_last {s : State} (hi : Inv s) (hs : s.st = .readingPayload)
    (hc : s.cnt.toNat + 1 = s.len.toNat) (ha : s.cnt.toNat < Config.PBUF_SIZE) (b : Byte) :
    Inv (nextPhase .readingChecksum (ckUpdate b (storeCell s.cnt.toNat b (polled s)))) := by
  have he : s.err = .none := inv_err_none hi (by simp [hs])
  obtain ⟨p, hp, hk⟩ := inv_covers_readingPayload hi hs
  have hp' : payloadOf (nextPhase .readingChecksum (ckUpdate b (storeCell s.cnt.toNat b (polled s)))) =
      some (p ++ [b]) := by
    have := readFrom_storeCell b hp
    rwa [hc] at this
  refine inv_of_reading hi.budget_pos (write_wf hi.buffer_wf ha b) rfl ⟨hi.budget_pos, le_refl _⟩
    he (fun _ => .inl rfl) (fun h => by simp at h) ?_ (hk.snoc rfl rfl)
  rw [coveredSoFar_readingChecksum rfl, hp', Option.map_some, coveredBytes_snoc]
  rfl

theorem inv_payloadStored_more {s : State} (hi : Inv s) (hs : s.st = .readingPayload)
    (hc : s.cnt.toNat + 1 ≠ s.len.toNat) (ha : s.cnt.toNat < Config.PBUF_SIZE) (hatt : (polled s).att ≠ 0) (b : Byte) :
    Inv (setCnt (s.cnt + 1) (ckUpdate b (storeCell s.cnt.toNat b (polled s)))) := by
  have he : s.err = .none := inv_err_none hi (by simp [hs])
  have hr : s.st.reading = true := by rw [hs]; rfl
  obtain ⟨p, hp, hk⟩ := inv_covers_readingPayload hi hs
  have hlt := hi.payload_cnt hs
  have hcnt : (s.cnt + 1).toNat = s.cnt.toNat + 1 := by
    have := s.len.isLt
    rw [BitVec.toNat_add]
    exact Nat.mod_eq_of_lt (by simp; omega)
  refine inv_of_reading hi.budget_pos (write_wf hi.buffer_wf ha b) hr (polled_att_range hi (busy_of_reading hr) hatt)
    he (fun h => absurd hs h) (fun _ => ?_) ?_ (hk.snoc rfl rfl)
  · rw [setCnt_cnt, hcnt]
    show s.cnt.toNat + 1 < s.len.toNat
    omega
  · have hp' := readFrom_storeCell b hp
    rw [← hcnt] at hp'
    rw [← coveredBytes_snoc]
    refine (coveredSoFar_readingPayload
      (s := setCnt (s.cnt + 1) (ckUpdate b (storeCell s.cnt.toNat b (polled s)))) hs).trans ?_
    exact congrArg (Option.map (coveredBytes s.cls s.id s.len)) hp'

theorem inv_rxAStored {s : State} (hi : Inv s) (hs : s.st = .readingChecksum) (ha : (polled s).att ≠ 0) (b : Byte) :
    Inv (rxAStored b (polled s)) := by
  have he : s.err = .none := inv_err_none hi (by simp [hs])
  have hr : s.st.reading = true := by rw [hs]; rfl
  obtain ⟨bs, hbs, hk⟩ := inv_covers hi (.inl hr)
  rw [coveredSoFar_readingChecksum hs] at hbs
  exact inv_of_reading hi.budget_pos hi.buffer_wf hr (polled_att_range hi (busy_of_reading hr) ha)
    he (fun _ => .inr rfl) (fun h => by simp [hs] at h)
    ((coveredSoFar_readingChecksum (s := rxAStored b (polled s)) hs).trans hbs) hk

/-- `DONE` is entered with the received checksum bytes equal to the computed ones (43_read_frame.md R189). -/
theorem inv_frameDone {s : State} {b : Byte} (hi : Inv s) (hs : s.st = .readingChecksum) (hA : s.rxA = s.ckA)
    (hB : b = s.ckB) : Inv (frameDone (rxBStored b (polled s))) := by
  have he : s.err = .none := inv_err_none hi (by simp [hs])
  obtain ⟨bs, hbs, hk⟩ := inv_covers hi (.inl (by rw [hs]; rfl))
  rw [coveredSoFar_readingChecksum hs] at hbs
  exact inv_of_done hi.budget_pos hi.buffer_wf rfl he
    ((coveredSoFar_done rfl).trans hbs) hk ⟨hA, hB⟩

/-- Every rule of the polls keeps the invariants: those that may time out by `inv_orTimeout`, the others at once. -/
theorem PollEffect.inv {s t : State} (h : PollEffect s t) (hi : Inv s) : Inv t := by
  have hb := hi.budget_pos
  have hw := hi.buffer_wf
  have he (hs : s.st ≠ .failed) : s.err = .none := inv_err_none hi hs
  have search (hs : s.st = .seekingSync) : s.busy = true := by rw [State.busy, hs]; rfl
  cases h with
  | searchEmpty hs => exact inv_orTimeout hb hw (by decide) (inv_polled hi (search hs))
  | searchFirst hs =>
    exact inv_orTimeout hb hw (by decide) fun ha => inv_of_search hb hw hs (polled_att_range hi (search hs) ha)
      (he (by simp [hs])) (hi.search_cnt hs)
  | searchMismatch b hs =>
    exact inv_orTimeout hb hw (by decide) fun ha => inv_of_search hb hw hs (polled_att_range hi (search hs) ha)
      (he (by simp [hs])) (hi.search_cnt hs)
  | searchSynced hs => exact inv_of_rest hb hw (.inr rfl) (he (by simp [hs]))
  | searchChained hs => exact inv_beginRead hb hw (he (by simp [hs]))
  | readEmpty hs => exact inv_orTimeout hb hw (by decide) (inv_polled hi (busy_of_reading hs))
  | headerClass b hs hr hc => exact inv_orTimeout hb hw (by decide) fun ha => inv_classStored hi hs hc ha b
  | headerId b hs hr hc => exact inv_idStored hi hs hc b
  | lengthLow b hs hr hc => exact inv_orTimeout hb hw (by decide) fun ha => inv_lengthLowStored hi hs hc ha b
  | lengthHigh b hs hr hc => exact inv_lengthStored hi hs hc b
  | payloadLast b hs hr ha hc => exact inv_payloadStored_last hi hs hc ha b
  | payloadMore b hs hr ha hc =>
    exact inv_orTimeout hb (write_wf hw ha b) (by decide) fun hatt => inv_payloadStored_more hi hs hc ha hatt b
  | checksumFirst b hs => exact inv_orTimeout hb hw (by decide) fun ha => inv_rxAStored hi hs ha b
  | checksumValid b hs hr hc hA hB => exact inv_frameDone hi hs hA hB
  | checksumInvalid => exact inv_fail hb hw (by decide)

/-! ## Every step keeps the invariants -/

theorem inv_atRest {f : State → State} {s t : State} (hi : Inv s) (hf : Inv s → Inv (f s))
    (h : atRest f s = .next t) : Inv t := by
  rcases atRest_next h with ⟨_, rfl⟩ | ⟨_, hp⟩
  · exact hf hi
  · exact hp.inv hi

theorem inv_awaitRestWithin {n : Nat} {s t : State} (hi : Inv s) (h : awaitRestWithin n s = .next t) : Inv t := by
  induction n generalizing s with
  | zero => cases h; exact hi
  | succ n ih =>
    rcases awaitRestWithin_next h with ⟨_, rfl⟩ | ⟨u, _, hu, ht⟩
    · exact hi
    · exact ih (hu.inv hi) ht

theorem inv_awaitRest {s t : State} (hi : Inv s) (h : awaitRest s = .next t) : Inv t := inv_awaitRestWithin hi h

/-- The meaning of every instruction keeps the invariants, whatever the step that fetches it. -/
theorem inv_exec {i : Instr} {s t : State} (hi : Inv s) (h : exec i s = .next t) : Inv t := by
  cases i with
  | none => exact inv_atRest (f := fun u => u) hi id h
  | sync => exact inv_atRest hi (inv_startSearch · false) h
  | read => exact inv_atRest hi inv_acceptRead h
  | recv => exact inv_atRest hi (inv_startSearch · true) h
  | syncByte0 => exact inv_atRest (f := fun u => u) (inv_offer hi _) id h
  | syncByte1 => exact inv_atRest (f := fun u => u) (inv_offer hi _) id h
  | syncMismatch b => exact inv_atRest (f := fun u => u) (inv_offer hi _) id h
  | frame c d l => exact inv_awaitRest (inv_offer hi _) h
  | nav5Cfg l => exact inv_awaitRest (inv_offer hi _) h
  | cfgSave => exact inv_awaitRest (inv_offer hi _) h
  | ackAck => exact inv_awaitRest (inv_offer hi _) h

theorem inv_waitStep {s t : State} (hi : Inv s) (h : waitStep s = .next t) : Inv t := by
  unfold waitStep at h
  split at h
  · exact inv_exec hi h
  · exact inv_awaitRest hi h

/-- Settles O14, by the host's action: a reset step gives the reset registers, every other step the meaning of an
instruction or a wait. -/
theorem everyStepKeepsTheInvariant : Obligations.EveryStepKeepsTheInvariant := by
  intro s t hi h
  cases hh : s.host with
  | nil =>
    rw [step_quiet hi.budget_pos hh] at h
    exact inv_exec hi h
  | cons a rest =>
    cases a with
    | wait =>
      rw [step_wait hi.budget_pos hh] at h
      exact inv_waitStep (inv_popHost hi) h
    | drive rst c a =>
      cases rst with
      | true =>
        rw [step_reset hi.budget_pos hh] at h
        cases h
        exact inv_resetRegs hi.budget_pos hi.buffer_wf
      | false =>
        rw [step_drive hi.budget_pos hh] at h
        exact inv_exec (inv_popHost hi) h

/-- Settles O15: nothing is covered at rest, so the reset values satisfy the invariants. -/
theorem resetStateHasTheInvariant : Obligations.ResetStateHasTheInvariant :=
  inv_of_rest (by decide) reset_buffer_wf (.inl rfl) rfl

end Sys2Proof.Machine.Laws
end

section
/-! PROOF. All that a step can do in which the host drives the ports (41_step_commands.md R140): a reset, a command, or a
poll; and from it who writes the registers and the payload buffer (10_state.md R20 to R31). -/

namespace Sys2Proof.Machine.Laws

/-! ## What a command does -/

/-- Every next state of a command accepted at rest, one constructor for each rule of 41_step_commands.md R141 to R146. -/
inductive CommandEffect (c : BitVec 2) (s : State) : State → Prop where
  | none (hc : c = 0) : CommandEffect c s s
  | sync (hc : c = 1) : CommandEffect c s (startSearch false s)
  | readBegins (hc : c = 2) (hs : s.st = .synced) : CommandEffect c s (beginRead (noError (unchained s)))
  | readFails (hc : c = 2) (hs : s.st ≠ .synced) : CommandEffect c s (fail .notSynced (unchained s))
  | recv (hc : c = 3) : CommandEffect c s (startSearch true s)

theorem acceptRead_effect {c : BitVec 2} (hc : c = 2) (s : State) : CommandEffect c s (acceptRead s) := by
  unfold acceptRead
  split
  · next hs => exact .readBegins hc hs
  · next hs => exact .readFails hc hs

theorem exec_decodeCommand_effect {c : BitVec 2} {s t : State} (hb : s.busy = false)
    (h : exec (decodeCommand c) s = .next t) : CommandEffect c s t := by
  have rest {f : State → State} (h : atRest f s = .next t) : t = f s := by
    rw [atRest_rest hb] at h
    cases h
    rfl
  unfold decodeCommand at h
  split at h
  · next h0 => exact rest (f := fun u => u) h ▸ .none h0
  · next h0 =>
    split at h
    · next h1 => exact rest h ▸ .sync h1
    · next h1 =>
      split at h
      · next h2 => exact rest h ▸ acceptRead_effect h2 s
      · next h2 => exact rest h ▸ .recv (by bv_omega)

/-- What no command writes, and the inputs it leaves as they are. -/
theorem CommandEffect.keeps {c : BitVec 2} {s t : State} (h : CommandEffect c s t) :
    t.cls = s.cls ∧ t.id = s.id ∧ t.len = s.len ∧ t.rxA = s.rxA ∧ t.rxB = s.rxB ∧ t.pbuf = s.pbuf ∧
      t.budget = s.budget ∧ t.chan = s.chan ∧ t.host = s.host := by
  cases h <;> simp [noError, unchained]

/-- `NONE` changes nothing, so a change has a command behind it (41_step_commands.md R141). -/
theorem CommandEffect.code_ne_zero {c : BitVec 2} {s t : State} (h : CommandEffect c s t) (hne : t ≠ s) : c ≠ 0 := by
  rintro rfl
  cases h with
  | none => exact hne rfl
  | sync hc => cases hc
  | readBegins hc => cases hc
  | readFails hc => cases hc
  | recv hc => cases hc

theorem CommandEffect.midx_writer {c : BitVec 2} {s t : State} (h : CommandEffect c s t) (hne : t.midx ≠ s.midx) :
    t.st = .seekingSync := by
  cases h with
  | sync => rfl
  | recv => rfl
  | _ => exact absurd rfl hne

/-- A command that writes `att` or `cnt` starts an operation. -/
theorem CommandEffect.counter_writer {c : BitVec 2} {s t : State} (h : CommandEffect c s t)
    (hne : t.att ≠ s.att ∨ t.cnt ≠ s.cnt) : t.busy = true := by
  cases h with
  | sync => rfl
  | readBegins => rfl
  | recv => rfl
  | _ => exact absurd hne (by simp [unchained])

/-- The one command that writes the accumulators is the `READ` that begins a frame read. -/
theorem CommandEffect.checksum_writer {c : BitVec 2} {s t : State} (h : CommandEffect c s t)
    (hne : t.ckA ≠ s.ckA ∨ t.ckB ≠ s.ckB) : t.st = .readingHeader ∧ s.st = .synced ∧ t.ckA = 0 ∧ t.ckB = 0 := by
  cases h with
  | readBegins _ hs => exact ⟨rfl, hs, rfl, rfl⟩
  | _ => exact absurd hne (by simp [unchained])

/-! ## What a poll writes, register by register -/

theorem PollEffect.midx_writer {s t : State} (h : PollEffect s t) (hne : t.midx ≠ s.midx) : s.st = .seekingSync := by
  cases h with
  | searchFirst hs => exact hs
  | searchSynced hs => exact hs
  | searchChained hs => exact hs
  | searchMismatch _ hs => exact hs
  | _ => exact absurd (by simp) hne

theorem PollEffect.cls_writer {s t : State} (h : PollEffect s t) (hne : t.cls ≠ s.cls) :
    s.st = .readingHeader ∧ s.cnt = 0 ∧ s.response = some t.cls := by
  cases h with
  | headerClass b hs hr hc => exact ⟨hs, hc, by simpa using hr⟩
  | _ => exact absurd (by simp) hne

theorem PollEffect.id_writer {s t : State} (h : PollEffect s t) (hne : t.id ≠ s.id) :
    s.st = .readingHeader ∧ s.cnt = 1 ∧ s.response = some t.id := by
  cases h with
  | headerId b hs hr hc => exact ⟨hs, hc, hr⟩
  | _ => exact absurd (by simp) hne

theorem PollEffect.len_writer {s t : State} (h : PollEffect s t) (hne : t.len ≠ s.len) :
    s.st = .readingLength ∧ s.response ≠ none := by
  cases h with
  | lengthLow b hs hr => exact ⟨hs, by simp [hr]⟩
  | lengthHigh b hs hr => exact ⟨hs, by simp [hr]⟩
  | _ => exact absurd (by simp) hne

/-- The accumulators are cleared where a frame read begins, and take the byte of a covered phase
(40_frame_checksum.md R122). -/
theorem PollEffect.checksum_writer {s t : State} (h : PollEffect s t) (hne : t.ckA ≠ s.ckA ∨ t.ckB ≠ s.ckB) :
    (t.st = .readingHeader ∧ s.st = .seekingSync ∧ t.ckA = 0 ∧ t.ckB = 0) ∨
    ((s.st = .readingHeader ∨ s.st = .readingLength ∨ s.st = .readingPayload) ∧
      ∃ b, s.response = some b ∧ t.ckA = s.ckA + b ∧ t.ckB = s.ckB + t.ckA) := by
  cases h with
  | searchChained hs => exact .inl ⟨rfl, hs, rfl, rfl⟩
  | headerClass b hs hr => exact .inr ⟨.inl hs, b, hr, by simp⟩
  | headerId b hs hr => exact .inr ⟨.inl hs, b, hr, by simp⟩
  | lengthLow b hs hr => exact .inr ⟨.inr (.inl hs), b, hr, by simp⟩
  | lengthHigh b hs hr => exact .inr ⟨.inr (.inl hs), b, hr, by simp⟩
  | payloadLast b hs hr => exact .inr ⟨.inr (.inr hs), b, hr, by simp⟩
  | payloadMore b hs hr => exact .inr ⟨.inr (.inr hs), b, hr, by simp⟩
  | _ => exact absurd hne (by simp)

theorem PollEffect.rxA_writer {s t : State} (h : PollEffect s t) (hne : t.rxA ≠ s.rxA) :
    s.st = .readingChecksum ∧ s.cnt = 0 ∧ s.response = some t.rxA := by
  cases h with
  | checksumFirst b hs hr hc => exact ⟨hs, hc, by simpa using hr⟩
  | _ => exact absurd (by simp) hne

theorem PollEffect.rxB_writer {s t : State} (h : PollEffect s t) (hne : t.rxB ≠ s.rxB) :
    s.st = .readingChecksum ∧ s.cnt = 1 ∧ s.response = some t.rxB := by
  cases h with
  | checksumValid b hs hr hc => exact ⟨hs, hc, hr⟩
  | checksumInvalid b hs hr hc => exact ⟨hs, hc, hr⟩
  | _ => exact absurd (by simp) hne

theorem orTimeout_err_writer {k : Err} {s : State} (hne : (orTimeout k s).err ≠ s.err) :
    (orTimeout k s).st = .failed := by
  rcases orTimeout_cases k s with ⟨_, h⟩ | ⟨_, h⟩
  · rw [h]; rfl
  · rw [h] at hne; exact absurd rfl hne

/-- A poll records a failure kind in no other way than by failing (60_exceptions.md R245). -/
theorem PollEffect.err_writer {s t : State} (h : PollEffect s t) (hne : t.err ≠ s.err) : t.st = .failed := by
  cases h with
  | checksumInvalid => rfl
  | searchSynced => exact absurd rfl hne
  | searchChained => exact absurd rfl hne
  | headerId => exact absurd rfl hne
  | lengthHigh => exact absurd rfl hne
  | payloadLast => exact absurd rfl hne
  | checksumValid => exact absurd rfl hne
  | _ => exact orTimeout_err_writer hne

/-- A byte delivered to the payload phase is stored at `cnt`; no other poll touches the buffer (43_read_frame.md R187). -/
theorem PollEffect.pbuf_writer {s t : State} (h : PollEffect s t) :
    (∃ b, s.st = .readingPayload ∧ s.response = some b ∧ t.pbuf = s.pbuf.write s.cnt.toNat b) ∨
      (¬(s.st = .readingPayload ∧ s.response ≠ none) ∧ t.pbuf = s.pbuf) := by
  cases h with
  | payloadLast b hs hr => exact .inl ⟨b, hs, hr, by simp⟩
  | payloadMore b hs hr => exact .inl ⟨b, hs, hr, by simp⟩
  | readEmpty _ hr => exact .inr ⟨by simp [hr], by simp⟩
  | _ => exact .inr ⟨by simp [*], by simp⟩

/-! ## What a driven step does -/

theorem wellFormed_decodeSyncByte (m : Bool) (b : Byte) : wellFormed (.marker m) (decodeSyncByte m b) = true := by
  unfold decodeSyncByte
  split
  · cases m <;> rfl
  · next hb => simpa [wellFormed] using hb

theorem encode_decodeSyncByte (m : Bool) (b : Byte) : encode (decodeSyncByte m b) = [b] := by
  unfold decodeSyncByte
  split
  · next hb => cases m <;> simp [encode, hb, Config.expectedSync]
  · rfl

/-- In a busy state the `cmd` port is not looked at: the step is one poll, also where the byte is decoded as one of the
byte events (41_step_commands.md R148, 30_encoding.md R97). -/
theorem cmdStep_busy {s : State} (hb : s.busy = true) (c : BitVec 2) : cmdStep c s = busyStep s := by
  have poll : exec .none s = busyStep s := atRest_busy hb fun u => u
  unfold cmdStep fetchStep
  rw [if_pos hb]
  split
  · next b _ hr =>
    rw [exec_byteRow (wellFormed_decodeSyncByte s.midx b), encode_decodeSyncByte, offer_of_response hr]
    exact atRest_busy hb _
  · exact poll
  · exact poll

theorem cmdStep_rest {s : State} (hb : s.busy = false) (c : BitVec 2) : cmdStep c s = exec (decodeCommand c) s := by
  simp [cmdStep, fetchStep, hb]

/-- Every next state of a step in which the host drives the ports, its action used up. -/
inductive DriveEffect (rst : Bool) (c : BitVec 2) (s t : State) : Prop where
  | reset (hr : rst = true) (h : t = resetRegs s)
  | command (hr : rst = false) (hb : s.busy = false) (h : CommandEffect c s t)
  | poll (hr : rst = false) (hb : s.busy = true) (h : PollEffect s t)

/-- All that a driven step can do. -/
theorem step_drive_effect {s t : State} {rst : Bool} {c : BitVec 2} {a : Half} {h : List HostAct}
    (hh : s.host = .drive rst c a :: h) (hs : step s = .next t) : DriveEffect rst c s.popHost t := by
  have hbud : 1 ≤ s.budget := by
    by_contra hb
    rw [step_of_budget_zero (by omega)] at hs
    cases hs
  cases rst with
  | true =>
    rw [step_reset hbud hh] at hs
    cases hs
    exact .reset rfl rfl
  | false =>
    rw [step_drive hbud hh] at hs
    cases hb : s.popHost.busy with
    | false =>
      rw [cmdStep_rest hb] at hs
      exact .command rfl hb (exec_decodeCommand_effect hb hs)
    | true =>
      rw [cmdStep_busy hb] at hs
      exact .poll rfl hb (busyStep_effect hb hs)

/-! ## The writers -/

/-- Settles O46: each clause is the writer lemma of its register, for the commands and for the polls. -/
theorem registersHaveTheirWriters : Obligations.RegistersHaveTheirWriters := by
  intro s t c a h hh hs
  have htail : s.popHost.host = h := by simp [hh]
  cases step_drive_effect hh hs with
  | reset hr => cases hr
  | command _ hb he =>
    obtain ⟨hcls, hid, hlen, hrxA, hrxB, _, hbudget, _, hhost⟩ := he.keeps
    have changed (hne : t ≠ s.popHost) : s.busy = false ∧ c ≠ 0 := ⟨hb, he.code_ne_zero hne⟩
    refine ⟨fun hne => changed ?_, fun hne => .inr ⟨hb, he.midx_writer hne⟩,
      fun hne => .inr (he.counter_writer (.inl hne)), fun hne => .inr (he.counter_writer (.inr hne)),
      fun hne => absurd hcls hne, fun hne => absurd hid hne, fun hne => absurd hlen hne, fun hne => ?_,
      fun hne => absurd hrxA hne, fun hne => absurd hrxB hne, fun hne => .inl (changed ?_), hbudget,
      hhost.trans htail⟩
    · rintro rfl; exact hne rfl
    · obtain ⟨ht, hsynced, hA, hB⟩ := he.checksum_writer hne
      exact .inl ⟨ht, .inl hsynced, hA, hB⟩
    · rintro rfl; exact hne rfl
  | poll _ hb hp =>
    obtain ⟨hchain, hbudget, hhost, _⟩ := hp.keeps
    refine ⟨fun hne => absurd hchain hne, fun hne => .inl (hp.midx_writer hne), fun _ => .inl hb, fun _ => .inl hb,
      hp.cls_writer, hp.id_writer, hp.len_writer, fun hne => ?_, hp.rxA_writer, hp.rxB_writer,
      fun hne => .inr (hp.err_writer hne), hbudget, hhost.trans htail⟩
    exact (hp.checksum_writer hne).imp (fun ⟨ht, hsearch, hAB⟩ => ⟨ht, .inr hsearch, hAB⟩) id

/-- Settles O45: a reset and a command leave the buffer as it is, a poll by `PollEffect.pbuf_writer`. -/
theorem onlyPayloadBytesWriteTheBuffer : Obligations.OnlyPayloadBytesWriteTheBuffer := by
  intro s t rst c a h hh hs k
  cases step_drive_effect hh hs with
  | reset hr ht => simp [hr, ht]
  | command hr hb he =>
    obtain ⟨_, _, _, _, _, hpbuf, _⟩ := he.keeps
    have hst : s.st ≠ .readingPayload := by
      intro hs
      simp [State.busy, St.busy, hs] at hb
    simp [hst, hpbuf]
  | poll hr hb hp =>
    rcases hp.pbuf_writer with ⟨b, hst, hresp, hpbuf⟩ | ⟨hno, hpbuf⟩
    · have hst' : s.st = .readingPayload := hst
      have hresp' : s.response = some b := hresp
      simp [hr, hst', hresp', hpbuf, read_write]
    · have hno' : ¬(s.st = .readingPayload ∧ s.response ≠ none) := hno
      rw [hpbuf, if_neg fun ⟨_, hst, hresp, _⟩ => hno' ⟨hst, hresp⟩]
      rfl

/-- Settles O11: the reset step is `resetRegs`, whose fields are the reset values. -/
theorem resetStepClearsTheRegisters : Obligations.ResetStepClearsTheRegisters := by
  intro s c a h hb hh
  have hrst : s.rxReadyNow = false := by simp [State.rxReadyNow, State.rstNow, hh]
  have hhost : s.popHost.host = h := by simp [hh]
  refine ⟨hrst, resetRegs s.popHost, step_reset hb hh, ?_, rfl, rfl, rfl, rfl, rfl, rfl, rfl⟩
  rw [← hhost]
  rfl

end Sys2Proof.Machine.Laws
end

section
/-! PROOF. What the host sees: the status outputs and the port map (10_state.md R32, R34), that no hidden register shows in
it (92_eei_decisions.md D14), and the frame of `DONE` (R35). -/

namespace Sys2Proof.Machine.Laws

/-! ## The status outputs -/

theorem busy_iff (s : State) :
    s.busy = true ↔ s.st = .seekingSync ∨ s.st = .readingHeader ∨ s.st = .readingLength ∨ s.st = .readingPayload ∨
      s.st = .readingChecksum := by
  unfold State.busy
  cases s.st <;> simp [St.busy]

theorem cmdReady_iff (s : State) :
    s.cmdReady = true ↔ s.st = .idle ∨ s.st = .synced ∨ s.st = .done ∨ s.st = .failed := by
  unfold State.cmdReady
  cases s.st <;> simp [St.busy]

theorem synced_iff (s : State) : s.synced = true ↔ s.st = .synced := beq_iff_eq

theorem done_iff (s : State) : s.done = true ↔ s.st = .done := beq_iff_eq

theorem failed_iff (s : State) : s.failed = true ↔ s.st = .failed := beq_iff_eq

/-- Settles O51: the flags' own lemmas; at reset `st` is `IDLE`. -/
theorem flagsFollowTheState : Obligations.FlagsFollowTheState :=
  ⟨fun s => ⟨busy_iff s, cmdReady_iff s, synced_iff s, done_iff s, failed_iff s, rfl⟩, rfl, rfl, rfl, rfl, rfl, rfl⟩

/-! ## The ports -/

/-- The layout of `STATUS` (10_state.md R34). -/
theorem statusByte_layout (s : State) :
    (statusByte s).extractLsb' 0 4 = s.st.code ∧ (statusByte s).getLsbD 4 = s.busy ∧
      (statusByte s).getLsbD 5 = s.synced ∧ (statusByte s).getLsbD 6 = s.done ∧
      (statusByte s).getLsbD 7 = s.failed := by
  refine ⟨?_, ?_, ?_, ?_, ?_⟩
  · apply BitVec.eq_of_getLsbD_eq
    intro i hi
    simp only [statusByte, BitVec.getLsbD_extractLsb', BitVec.getLsbD_append]
    simp [hi]
  all_goals
    simp only [statusByte, BitVec.getLsbD_append]
    simp

theorem statusByte_congr {s s' : State} (h : s.st = s'.st) : statusByte s = statusByte s' := by
  simp [statusByte, State.failed, State.done, State.synced, State.busy, h]

/-- The layout of `CKSUM`: the two received bytes, the first in the low half (10_state.md R34). -/
theorem joinBytes_layout (lo hi : Byte) :
    (joinBytes lo hi).extractLsb' 0 8 = lo ∧ (joinBytes lo hi).extractLsb' 8 8 = hi :=
  ⟨lowByte_joinBytes lo hi, highByte_joinBytes lo hi⟩

theorem whenDone_done {w : Nat} {s : State} (h : s.st = .done) (v : BitVec w) : whenDone v s = .ok v :=
  if_pos ((done_iff s).2 h)

theorem whenDone_not_done {w : Nat} {s : State} (h : s.st ≠ .done) (v : BitVec w) :
    whenDone v s = .error .portUnspecified :=
  if_neg (mt (done_iff s).1 h)

theorem pdataByte_not_done {s : State} (h : s.st ≠ .done) (a : Half) : pdataByte a s = .error .portUnspecified := by
  simp [pdataByte, mt (done_iff s).1 h]

theorem pdataByte_beyond {s : State} {a : Half} (h : s.len.toNat ≤ a.toNat) :
    pdataByte a s = .error .portUnspecified := by
  simp [pdataByte, Nat.not_lt.2 h]

theorem pdataByte_written {s : State} {a : Half} {b : Byte} (hs : s.st = .done) (ha : a.toNat < s.len.toNat)
    (hb : s.pbuf.read a.toNat = some b) : pdataByte a s = .ok b := by
  simp [pdataByte, (done_iff s).2 hs, ha, hb]

theorem pdataByte_unwritten {s : State} {a : Half} (hs : s.st = .done) (ha : a.toNat < s.len.toNat)
    (hb : s.pbuf.read a.toNat = none) : pdataByte a s = .error .cellUnwritten := by
  simp [pdataByte, (done_iff s).2 hs, ha, hb]

/-- Settles O52: each port by its own lemma, in `DONE` and outside it. -/
theorem portsReadAsMapped : Obligations.PortsReadAsMapped := by
  intro s a
  refine ⟨⟨statusByte s, rfl, statusByte_layout s⟩, rfl, rfl, rfl, fun hs => ?_, fun hs => ?_, rfl, rfl⟩
  · exact ⟨whenDone_done hs _, whenDone_done hs _, whenDone_done hs _,
      ⟨joinBytes s.rxA s.rxB, whenDone_done hs _, joinBytes_layout s.rxA s.rxB⟩,
      fun ha => ⟨fun _ hb => pdataByte_written hs ha hb, pdataByte_unwritten hs ha⟩, pdataByte_beyond⟩
  · exact ⟨whenDone_not_done hs _, whenDone_not_done hs _, whenDone_not_done hs _, whenDone_not_done hs _,
      pdataByte_not_done hs a⟩

/-! ## No hidden register shows -/

/-- A frame port shows its register in `DONE` only. -/
theorem whenDone_congr {w : Nat} {s s' : State} {v v' : BitVec w} (h : s.st = s'.st) (hv : s.st = .done → v = v') :
    whenDone v s = whenDone v' s' := by
  by_cases hs : s.st = .done
  · rw [whenDone_done hs, whenDone_done (h ▸ hs), hv hs]
  · rw [whenDone_not_done hs, whenDone_not_done (h ▸ hs)]

/-- `PDATA` shows the cells below `len`, in `DONE` only. -/
theorem pdataByte_congr {s s' : State} (h : s.st = s'.st)
    (hv : s.st = .done → s.len = s'.len ∧ ∀ k < s.len.toNat, s.pbuf.read k = s'.pbuf.read k) (a : Half) :
    pdataByte a s = pdataByte a s' := by
  by_cases hs : s.st = .done
  · obtain ⟨hlen, hcells⟩ := hv hs
    have hs' : s'.st = .done := h ▸ hs
    by_cases ha : a.toNat < s.len.toNat
    · have hcell := hcells a.toNat ha
      have ha' : a.toNat < s'.len.toNat := hlen ▸ ha
      cases hb : s.pbuf.read a.toNat with
      | none => rw [pdataByte_unwritten hs ha hb, pdataByte_unwritten hs' ha' (hcell ▸ hb)]
      | some b => rw [pdataByte_written hs ha hb, pdataByte_written hs' ha' (hcell ▸ hb)]
    · rw [pdataByte_beyond (Nat.not_lt.1 ha), pdataByte_beyond (Nat.not_lt.1 (hlen ▸ ha))]
  · rw [pdataByte_not_done hs, pdataByte_not_done (h ▸ hs)]

/-- Settles O53: port by port, what it shows is `st`, `err` or, in `DONE`, the frame. -/
theorem hiddenRegistersDoNotShow : Obligations.HiddenRegistersDoNotShow := by
  intro s s' hst herr hframe p a
  cases p with
  | status => exact congrArg Except.ok (statusByte_congr hst)
  | err => exact congrArg (fun e => Except.ok (Err.code e)) herr
  | cls => exact whenDone_congr hst fun hs => let ⟨hcls, _⟩ := hframe hs; hcls
  | id => exact whenDone_congr hst fun hs => let ⟨_, hid, _⟩ := hframe hs; hid
  | len => exact whenDone_congr hst fun hs => let ⟨_, _, hlen, _⟩ := hframe hs; hlen
  | cksum =>
    refine whenDone_congr hst fun hs => ?_
    obtain ⟨_, _, _, hA, hB, _⟩ := hframe hs
    rw [hA, hB]
  | pdata =>
    refine pdataByte_congr hst (fun hs => ?_) a
    obtain ⟨_, _, hlen, _, _, hcells⟩ := hframe hs
    exact ⟨hlen, hcells⟩
  | cmdReady => exact congrArg (fun st => Except.ok (BitVec.ofBool !st.busy)) hst
  | rxReady => exact congrArg (fun st => Except.ok (BitVec.ofBool st.busy)) hst

/-! ## The frame of `DONE` -/

theorem frameOf_done {s : State} {p : List Byte} (hs : s.st = .done) (hp : payloadOf s = some p) :
    frameOf s = some ⟨s.cls, s.id, p⟩ := by
  simp [frameOf, hs, hp]

theorem frameOf_not_done {s : State} (hs : s.st ≠ .done) : frameOf s = none := if_neg hs

/-- The length field of the observed frame is the register `len`. -/
theorem lenField_of_payloadOf {s : State} {p : List Byte} (hp : payloadOf s = some p) (c d : Byte) :
    Frame.lenField ⟨c, d, p⟩ = s.len := by
  simp [Frame.lenField, readFrom_length hp]

/-- Settles O54: in `DONE` the accumulators cover the whole frame (R36 item 8) and equal the received checksum bytes
(item 7). -/
theorem doneShowsAValidFrame : Obligations.DoneShowsAValidFrame := by
  intro s hi
  refine ⟨frameOf_not_done, fun hs => ?_⟩
  obtain ⟨p, hp, hk⟩ := inv_covers_frame hi (.inr hs)
  obtain ⟨hA, hB⟩ := hi.done_checksum hs
  have hck : frameCk ⟨s.cls, s.id, p⟩ = (s.rxA, s.rxB) := by
    rw [frameCk, lenField_of_payloadOf hp, hA, hB]
    exact hk
  refine ⟨⟨s.cls, s.id, p⟩, frameOf_done hs hp, rfl, rfl, readFrom_length hp, hck, fun a ha => ?_⟩
  have hcell : s.pbuf.read a.toNat = p[a.toNat]? := by
    have := readFrom_getElem? hp ha
    rwa [Nat.zero_add] at this
  have hlt : a.toNat < p.length := by rwa [readFrom_length hp]
  rw [List.getElem?_eq_getElem hlt] at hcell
  exact ⟨p[a.toNat], List.getElem?_eq_getElem hlt, pdataByte_written hs ha hcell⟩

end Sys2Proof.Machine.Laws
end

section
/-! PROOF. The receive channel (20_memory.md R61, R62, R76): who takes a response from it, in which order, and that the
bytes wait in it while the block is at rest. -/

namespace Sys2Proof.Machine.Laws

/-! ## Polls -/

/-- The block polls exactly in a busy step without reset (20_memory.md R61, 70_reset_and_hazards.md R270). -/
theorem rxReadyNow_drive {s : State} {rst : Bool} {c : BitVec 2} {a : Half} {h : List HostAct}
    (hh : s.host = .drive rst c a :: h) : s.rxReadyNow = (s.busy && !rst) := by
  simp [State.rxReadyNow, State.rxReady, State.rstNow, State.busy, hh]

/-- A channel that has run out is silent (20_memory.md R62). -/
theorem response_nil {s : State} (h : s.chan = []) : s.response = none := by
  simp [State.response, h]

/-- A poll takes the head of the channel; a reset and a command take nothing. -/
theorem DriveEffect.chan {rst : Bool} {c : BitVec 2} {s t : State} (h : DriveEffect rst c s t) :
    t.chan = if (s.busy && !rst) = true then s.chan.tail else s.chan := by
  cases h with
  | reset hr ht => simp [hr, ht]
  | command _ hb hc =>
    obtain ⟨_, _, _, _, _, _, _, hchan, _⟩ := hc.keeps
    simpa [hb] using hchan
  | poll hr hb hp =>
    obtain ⟨_, _, _, hchan⟩ := hp.keeps
    simpa [hr, hb] using hchan

/-- Settles O44: what a driven step takes is `DriveEffect.chan`, and `rx_ready` is the condition of its poll. -/
theorem pollsTakeTheChannelInOrder : Obligations.PollsTakeTheChannelInOrder := by
  intro s t rst c a h hh hs
  have hready := rxReadyNow_drive hh
  refine ⟨hready, ?_, response_nil, fun _ _ => response_cons⟩
  rw [hready]
  exact (step_drive_effect hh hs).chan

/-! ## Bytes that wait -/

/-- Both kinds of row offer their bytes and then do what the state does with them, which at rest is nothing. -/
theorem exec_channelRow_rest {i : Instr} {m : Bool} {s : State} (hb : s.busy = false)
    (hw : wellFormed (.marker m) i = true ∨ wellFormed .wire i = true) : exec i s = .next (s.offer (encode i)) := by
  have hrest : (s.offer (encode i)).busy = false := hb
  rcases hw with hbyte | hframe
  · rw [exec_byteRow hbyte, atRest_rest hrest]
  · rw [exec_frameRow hframe, awaitRest_rest hrest]

/-- Settles O26: the bytes offered stay, and offering what stands there already changes nothing. -/
theorem bytesWaitWhileAtRest : Obligations.BytesWaitWhileAtRest := by
  intro i m s hb hw
  have hoffer := exec_channelRow_rest hb hw
  refine ⟨hoffer, fun rest hchan => ?_⟩
  rw [hoffer, offer_eq_self hchan]

end Sys2Proof.Machine.Laws
end

section
/-! PROOF. The decoder and the encoder (30_encoding.md R90 to R102): what the decoder reads in each slot, that it and the
encoder undo each other, what it rejects; the length field; the codes of `st` and `err`. -/

namespace Sys2Proof.Machine.Laws

/-! ## Bytes, length fields and command codes -/

theorem joinBytes_toNat (lo hi : Byte) : (joinBytes lo hi).toNat = lo.toNat + 256 * hi.toNat := by
  simp only [joinBytes, BitVec.toNat_ofNat]
  omega

/-- The two bytes of a length, joined again, are that length (30_encoding.md R90, R91). -/
theorem joinBytes_lowByte_highByte (v : Half) : joinBytes (lowByte v) (highByte v) = v := by
  apply BitVec.eq_of_toNat_eq
  simp only [joinBytes_toNat, lowByte, highByte, BitVec.toNat_setWidth, BitVec.toNat_ushiftRight,
    Nat.shiftRight_eq_div_pow]
  omega

/-- A code of the two-bit port, written as a byte, is below 4. -/
theorem toNat_commandByte_lt (c : BitVec 2) : (c.setWidth 8 : Byte).toNat < 4 := by
  rw [BitVec.toNat_setWidth_of_le (by decide)]
  exact c.isLt

theorem setWidth_commandByte (c : BitVec 2) : (c.setWidth 8 : Byte).setWidth 2 = c := by
  simp

/-- A byte below 4 is the byte of its two low bits. -/
theorem commandByte_setWidth {b : Byte} (hb : b.toNat < 4) : ((b.setWidth 2 : BitVec 2).setWidth 8 : Byte) = b := by
  apply BitVec.eq_of_toNat_eq
  simp only [BitVec.toNat_setWidth]
  omega

/-! ## What the decoder reads, slot by slot -/

theorem decode_cmd {b : Byte} (hb : b.toNat < 4) (rest : List Byte) :
    decode .cmd (b :: rest) = .ok (decodeCommand (b.setWidth 2), rest) := if_pos hb

theorem decode_cmd_error {b : Byte} (hb : 4 ≤ b.toNat) (rest : List Byte) :
    decode .cmd (b :: rest) = .error .notACommand := if_neg (Nat.not_lt.2 hb)

theorem decode_marker (m : Bool) (b : Byte) (rest : List Byte) :
    decode (.marker m) (b :: rest) = .ok (decodeSyncByte m b, rest) := rfl

theorem decode_wire (c d lo hi : Byte) (rest : List Byte) :
    decode .wire (Config.SYNC0 :: Config.SYNC1 :: c :: d :: lo :: hi :: rest) =
      .ok (decodeHeader c d (joinBytes lo hi), rest) := rfl

theorem decode_wire_error {s0 s1 : Byte} (h : ¬(s0 = Config.SYNC0 ∧ s1 = Config.SYNC1)) (c d lo hi : Byte)
    (rest : List Byte) : decode .wire (s0 :: s1 :: c :: d :: lo :: hi :: rest) = .error .noMarker := if_neg h

/-- A frame row has six bytes (30_encoding.md R102). -/
theorem decode_wire_truncated : ∀ {bs : List Byte}, bs.length < 6 → decode .wire bs = .error .truncated
  | [], _ | [_], _ | [_, _], _ | [_, _, _], _ | [_, _, _, _], _ | [_, _, _, _, _], _ => rfl
  | _ :: _ :: _ :: _ :: _ :: _ :: _, h => absurd h (by simp)

/-- The first six bytes of a frame decode to the row of their class, id and length (30_encoding.md R90, R96). -/
theorem decode_headerBytes (c d : Byte) (l : Half) (rest : List Byte) :
    decode .wire (headerBytes c d l ++ rest) = .ok (decodeHeader c d l, rest) := by
  have h := decode_wire c d (lowByte l) (highByte l) rest
  rwa [joinBytes_lowByte_highByte] at h

theorem decode_commandByte (c : BitVec 2) (rest : List Byte) :
    decode .cmd (c.setWidth 8 :: rest) = .ok (decodeCommand c, rest) := by
  rw [decode_cmd (toNat_commandByte_lt c), setWidth_commandByte]

theorem decodeSyncByte_mismatch {m : Bool} {b : Byte} (hb : b ≠ Config.expectedSync m) :
    decodeSyncByte m b = .syncMismatch b := if_neg hb

/-- All that a frame's class, id and length can decode to: a row of its own, or `FRAME` where it has none
(30_encoding.md R96, R102). -/
theorem decodeHeader_cases (c d : Byte) (l : Half) :
    (c = 0x06 ∧ d = 0x24 ∧ decodeHeader c d l = .nav5Cfg l) ∨
      (c = 0x06 ∧ d = 0x09 ∧ l = 13 ∧ decodeHeader c d l = .cfgSave) ∨
      (c = 0x05 ∧ d = 0x01 ∧ l = 2 ∧ decodeHeader c d l = .ackAck) ∨
      (knownHeader c d l = false ∧ decodeHeader c d l = .frame c d l) := by
  unfold decodeHeader
  split
  · next h => exact .inl ⟨h.1, h.2, rfl⟩
  · next h₁ =>
    split
    · next h => exact .inr (.inl ⟨h.1, h.2.1, h.2.2, rfl⟩)
    · next h₂ =>
      split
      · next h => exact .inr (.inr (.inl ⟨h.1, h.2.1, h.2.2, rfl⟩))
      · next h₃ =>
        refine .inr (.inr (.inr ⟨Bool.eq_false_iff.2 fun hk => ?_, rfl⟩))
        simp only [knownHeader, Bool.or_eq_true, Bool.and_eq_true, beq_iff_eq, and_assoc] at hk
        exact hk.elim (fun hk => hk.elim h₁ h₂) h₃

theorem decodeHeader_unknown {c d : Byte} {l : Half} (h : knownHeader c d l = false) :
    decodeHeader c d l = .frame c d l := by
  rcases decodeHeader_cases c d l with ⟨rfl, rfl, _⟩ | ⟨rfl, rfl, rfl, _⟩ | ⟨rfl, rfl, rfl, _⟩ | ⟨_, hframe⟩
  · cases h
  · cases h
  · cases h
  · exact hframe

/-! ## What is decoded fits its slot, and is encoded as the bytes it was read from -/

theorem wellFormed_decodeCommand (c : BitVec 2) : wellFormed .cmd (decodeCommand c) = true := by
  revert c
  decide

theorem encode_decodeCommand (c : BitVec 2) : encode (decodeCommand c) = [c.setWidth 8] := by
  revert c
  decide

theorem wellFormed_decodeHeader (c d : Byte) (l : Half) : wellFormed .wire (decodeHeader c d l) = true := by
  rcases decodeHeader_cases c d l with ⟨_, _, h⟩ | ⟨_, _, _, h⟩ | ⟨_, _, _, h⟩ | ⟨hk, h⟩
  · rw [h]; rfl
  · rw [h]; rfl
  · rw [h]; rfl
  · simp [h, wellFormed, hk]

theorem encode_decodeHeader (c d : Byte) (l : Half) : encode (decodeHeader c d l) = headerBytes c d l := by
  rcases decodeHeader_cases c d l with ⟨rfl, rfl, h⟩ | ⟨rfl, rfl, rfl, h⟩ | ⟨rfl, rfl, rfl, h⟩ | ⟨_, h⟩
  all_goals rw [h]; rfl

/-- All that can be decoded on the wire: the marker, and the header after it (30_encoding.md R94, R102). -/
theorem decode_wire_ok {bs rest : List Byte} {i : Instr} (h : decode .wire bs = .ok (i, rest)) :
    ∃ c d lo hi, bs = Config.SYNC0 :: Config.SYNC1 :: c :: d :: lo :: hi :: rest ∧
      i = decodeHeader c d (joinBytes lo hi) := by
  match bs with
  | s0 :: s1 :: c :: d :: lo :: hi :: tail =>
    by_cases hm : s0 = Config.SYNC0 ∧ s1 = Config.SYNC1
    · obtain ⟨rfl, rfl⟩ := hm
      cases h
      exact ⟨c, d, lo, hi, rfl, rfl⟩
    · rw [decode_wire_error hm] at h
      cases h
  | [] | [_] | [_, _] | [_, _, _] | [_, _, _, _] | [_, _, _, _, _] => cases h

/-- Settles O2: each slot's decoder by the two lemmas of what it reads. -/
theorem encodeWritesBackEveryDecodedWord : Obligations.EncodeWritesBackEveryDecodedWord := by
  intro sl bs rest i h
  cases sl with
  | cmd =>
    cases bs with
    | nil => cases h
    | cons b bs =>
      by_cases hb : b.toNat < 4
      · rw [decode_cmd hb] at h
        cases h
        refine ⟨wellFormed_decodeCommand _, ?_⟩
        rw [encode_decodeCommand, commandByte_setWidth hb]
        rfl
      · rw [decode_cmd_error (Nat.not_lt.1 hb)] at h
        cases h
  | marker m =>
    cases bs with
    | nil => cases h
    | cons b bs =>
      rw [decode_marker] at h
      cases h
      exact ⟨wellFormed_decodeSyncByte m b, congrArg (· ++ _) (encode_decodeSyncByte m b)⟩
  | wire =>
    obtain ⟨c, d, lo, hi, rfl, rfl⟩ := decode_wire_ok h
    refine ⟨wellFormed_decodeHeader c d _, ?_⟩
    rw [encode_decodeHeader, headerBytes, lowByte_joinBytes, highByte_joinBytes]
    rfl

/-! ## What a slot can hold is what its decoder reads -/

theorem wellFormed_cmd {i : Instr} (h : wellFormed .cmd i = true) : ∃ c, i = decodeCommand c := by
  cases i with
  | none => exact ⟨0, rfl⟩
  | sync => exact ⟨1, rfl⟩
  | read => exact ⟨2, rfl⟩
  | recv => exact ⟨3, rfl⟩
  | _ => cases h

theorem wellFormed_marker {m : Bool} {i : Instr} (h : wellFormed (.marker m) i = true) :
    ∃ b, i = decodeSyncByte m b := by
  cases i with
  | syncByte0 =>
    obtain rfl : m = false := by simpa [wellFormed] using h
    exact ⟨Config.SYNC0, rfl⟩
  | syncByte1 =>
    obtain rfl : m = true := by simpa [wellFormed] using h
    exact ⟨Config.SYNC1, rfl⟩
  | syncMismatch b => exact ⟨b, (decodeSyncByte_mismatch (by simpa [wellFormed] using h)).symm⟩
  | _ => cases h

theorem wellFormed_wire {i : Instr} (h : wellFormed .wire i = true) : ∃ c d l, i = decodeHeader c d l := by
  cases i with
  | frame c d l => exact ⟨c, d, l, (decodeHeader_unknown (by simpa [wellFormed] using h)).symm⟩
  | nav5Cfg l => exact ⟨0x06, 0x24, l, rfl⟩
  | cfgSave => exact ⟨0x06, 0x09, 13, rfl⟩
  | ackAck => exact ⟨0x05, 0x01, 2, rfl⟩
  | _ => cases h

/-- Settles O1: what stands in the slot is the code, the byte or the header that the decoder reads the instruction from. -/
theorem decodeReadsBackEveryEncoding : Obligations.DecodeReadsBackEveryEncoding := by
  intro sl i rest h
  cases sl with
  | cmd =>
    obtain ⟨c, rfl⟩ := wellFormed_cmd h
    rw [encode_decodeCommand]
    exact decode_commandByte c rest
  | marker m =>
    obtain ⟨b, rfl⟩ := wellFormed_marker h
    rw [encode_decodeSyncByte]
    exact decode_marker m b rest
  | wire =>
    obtain ⟨c, d, l, rfl⟩ := wellFormed_wire h
    rw [encode_decodeHeader]
    exact decode_headerBytes c d l rest

/-! ## Rejected words, and single words -/

/-- Settles O3: the error of each slot. -/
theorem decodeRejectsByName : Obligations.DecodeRejectsByName :=
  ⟨fun _ rest hb => decode_cmd_error hb rest, fun _ _ c d lo hi rest h => decode_wire_error h c d lo hi rest,
    fun _ hlen => decode_wire_truncated hlen, rfl, fun _ => rfl⟩

/-- Settles O4: each word by the lemma of its slot. -/
theorem sampleWordsDecode : Obligations.SampleWordsDecode :=
  ⟨decode_commandByte 2 [], decode_marker false 0xB5 [], decode_marker true 0x62 [], decode_marker true 0xB5 [],
    decode_headerBytes 0x12 0x34 259 [0xAA], decode_headerBytes 0x06 0x24 0 [], decode_headerBytes 0x06 0x09 13 [],
    decode_headerBytes 0x05 0x01 2 []⟩

/-- Settles O5: the port is two bits wide, so `decode_commandByte` leaves out no code. -/
theorem allFourCommandCodesDecode : Obligations.AllFourCommandCodesDecode :=
  ⟨decode_commandByte 0 [], decode_commandByte 1 [], decode_commandByte 2 [], decode_commandByte 3 [],
    fun c => ⟨decodeCommand c, decode_commandByte c [], rfl⟩⟩

/-- Settles O6: the expected byte of each `midx` (10_state.md R22) is the one the table names. -/
theorem syncSearchClassifiesBytes : Obligations.SyncSearchClassifiesBytes :=
  fun b => ⟨decode_marker false b [], decode_marker true b []⟩

/-- Settles O7. -/
theorem lengthIsLittleEndian : Obligations.LengthIsLittleEndian :=
  fun lo hi => ⟨joinBytes_toNat lo hi, lowByte_joinBytes lo hi, highByte_joinBytes lo hi⟩

/-! ## The codes of `st` and `err` -/

theorem ofCode_stCode (st : St) : St.ofCode st.code = some st := by
  cases st <;> rfl

theorem ofCode_errCode (e : Err) : Err.ofCode e.code = some e := by
  cases e <;> rfl

theorem stOfCode_undefined {c : BitVec 4} (hc : 9 ≤ c.toNat) : St.ofCode c = none := List.getElem?_eq_none hc

theorem errOfCode_undefined {c : BitVec 3} (hc : 5 ≤ c.toNat) : Err.ofCode c = none := List.getElem?_eq_none hc

/-- Settles O8: a member is read back from its code, and the lists of R99 and R100 end at 8 and at 4. -/
theorem stateAndErrorCodes : Obligations.StateAndErrorCodes :=
  ⟨ofCode_stCode, ofCode_errCode, fun _ => stOfCode_undefined, fun _ => errOfCode_undefined, rfl, rfl, rfl⟩

end Sys2Proof.Machine.Laws
end

section
/-! PROOF. `WAIT` is a number of steps with `cmd = NONE` (30_encoding.md R103): the polls of a wait, each of them one driven
step. -/

namespace Sys2Proof.Machine.Laws

/-! ## A poll is the busy step of its rule -/

/-- The converse of `busyStep_effect`: the rule that applies is what the busy step does. -/
theorem PollEffect.busyStep_eq {s t : State} (h : PollEffect s t) : busyStep s = .next t := by
  cases h with
  | searchEmpty hs hr => rw [busyStep_seekingSync hs, hr, seekPoll_empty]
  | searchFirst hs hm hr => rw [busyStep_seekingSync hs, hr, seekPoll_first (s := polled s) hm]
  | searchSynced hs hm hr hc =>
    rw [busyStep_seekingSync hs, hr, seekPoll_found (s := polled s) hm, syncFound_synced (s := polled s) hc]
  | searchChained hs hm hr hc =>
    rw [busyStep_seekingSync hs, hr, seekPoll_found (s := polled s) hm, syncFound_chained (s := polled s) hc]
  | searchMismatch b hs hr hb => rw [busyStep_seekingSync hs, hr, seekPoll_mismatch (s := polled s) hb]
  | readEmpty hs hr =>
    cases hst : s.st with
    | readingHeader => rw [busyStep_readingHeader hst, hr]; rfl
    | readingLength => rw [busyStep_readingLength hst, hr]; rfl
    | readingPayload => rw [busyStep_readingPayload hst, hr]; rfl
    | readingChecksum => rw [busyStep_readingChecksum hst, hr]; rfl
    | _ => simp [St.reading, St.busy, hst] at hs
  | headerClass b hs hr hc => rw [busyStep_readingHeader hs, hr, headerPoll_class (s := polled s) hc]
  | headerId b hs hr hc => rw [busyStep_readingHeader hs, hr, headerPoll_id (s := polled s) hc]
  | lengthLow b hs hr hc => rw [busyStep_readingLength hs, hr, lengthPoll_low (s := polled s) hc]
  | lengthHigh b hs hr hc =>
    rw [busyStep_readingLength hs, hr, lengthPoll_high (s := polled s) hc, polled_len]
  | payloadLast b hs hr ha hc =>
    rw [busyStep_readingPayload hs, hr, payloadPoll_byte (s := polled s) ha]
    exact congrArg _ (payloadStored_last (s := storeCell s.cnt.toNat b (polled s)) hc b)
  | payloadMore b hs hr ha hc =>
    rw [busyStep_readingPayload hs, hr, payloadPoll_byte (s := polled s) ha]
    exact congrArg _ (payloadStored_more (s := storeCell s.cnt.toNat b (polled s)) hc b)
  | checksumFirst b hs hr hc => rw [busyStep_readingChecksum hs, hr, checksumPoll_first (s := polled s) hc]
  | checksumValid b hs hr hc hA hB =>
    rw [busyStep_readingChecksum hs, hr, checksumPoll_second (s := polled s) hc,
      validate_valid (s := rxBStored b (polled s)) ⟨hA, hB⟩]
  | checksumInvalid b hs hr hc hAB =>
    rw [busyStep_readingChecksum hs, hr, checksumPoll_second (s := polled s) hc,
      validate_invalid (s := rxBStored b (polled s)) hAB]

/-- Only a busy state is polled. -/
theorem PollEffect.busy {s t : State} (h : PollEffect s t) : s.busy = true := by
  cases h with
  | readEmpty hs => exact busy_of_reading hs
  | _ => simp [State.busy, St.busy, *]

/-! ## The host's actions to come are no part of a poll (10_state.md R37) -/

/-- The same state before other host actions. -/
def withHost (h : List HostAct) (s : State) : State := { s with host := h }

theorem withHost_self {h : List HostAct} {s : State} (hh : s.host = h) : withHost h s = s := by
  rw [← hh]
  rfl

theorem popHost_withHost_cons (a : HostAct) (h : List HostAct) (s : State) :
    (withHost (a :: h) s).popHost = withHost h s := rfl

theorem orTimeout_withHost (k : Err) (h : List HostAct) (s : State) :
    orTimeout k (withHost h s) = withHost h (orTimeout k s) := by
  rcases orTimeout_cases k s with ⟨ha, hs⟩ | ⟨ha, hs⟩
  · rw [hs]; exact if_pos ha
  · rw [hs]; exact if_neg ha

/-- Each rule applies whatever the host does next. -/
theorem PollEffect.host_irrelevant {s t : State} (hp : PollEffect s t) (h : List HostAct) :
    PollEffect (withHost h s) (withHost h t) := by
  cases hp with
  | searchEmpty hs hr => rw [← orTimeout_withHost]; exact .searchEmpty hs hr
  | searchFirst hs hm hr => rw [← orTimeout_withHost]; exact .searchFirst hs hm hr
  | searchSynced hs hm hr hc => exact .searchSynced hs hm hr hc
  | searchChained hs hm hr hc => exact .searchChained hs hm hr hc
  | searchMismatch b hs hr hb => rw [← orTimeout_withHost]; exact .searchMismatch b hs hr hb
  | readEmpty hs hr => rw [← orTimeout_withHost]; exact .readEmpty hs hr
  | headerClass b hs hr hc => rw [← orTimeout_withHost]; exact .headerClass b hs hr hc
  | headerId b hs hr hc => exact .headerId b hs hr hc
  | lengthLow b hs hr hc => rw [← orTimeout_withHost]; exact .lengthLow b hs hr hc
  | lengthHigh b hs hr hc => exact .lengthHigh b hs hr hc
  | payloadLast b hs hr ha hc => exact .payloadLast b hs hr ha hc
  | payloadMore b hs hr ha hc => rw [← orTimeout_withHost]; exact .payloadMore b hs hr ha hc
  | checksumFirst b hs hr hc => rw [← orTimeout_withHost]; exact .checksumFirst b hs hr hc
  | checksumValid b hs hr hc hA hB => exact .checksumValid b hs hr hc hA hB
  | checksumInvalid b hs hr hc hAB => exact .checksumInvalid b hs hr hc hAB

/-! ## A wait, step by step -/

/-- One step with `cmd = NONE` in a busy state is one poll (41_step_commands.md R148). -/
theorem step_none_poll {s t : State} (hbud : 1 ≤ s.budget) (hp : PollEffect s t) (h : List HostAct) :
    step (withHost (.drive false 0 0 :: h) s) = .next (withHost h t) := by
  rw [step_drive (s := withHost (.drive false 0 0 :: h) s) hbud rfl, popHost_withHost_cons,
    cmdStep_busy (hp.host_irrelevant h).busy, (hp.host_irrelevant h).busyStep_eq]

theorem run_succ {M : Host.Core} {s t : M.State} (h : M.step s = .next t) (k : Nat) :
    M.run (k + 1) s = M.run k t := by
  rw [Host.Core.run, h]

/-- The polls of a wait, run as that many steps with `cmd = NONE`. -/
theorem run_none_of_awaitRestWithin {n : Nat} {s t : State} (hbud : 1 ≤ s.budget) (h : awaitRestWithin n s = .next t)
    (rest : List HostAct) :
    ∃ k, Host.Core.run Sys2Proof.core k (withHost (List.replicate k (.drive false 0 0) ++ rest) s) =
      .next (withHost rest t) := by
  induction n generalizing s with
  | zero => cases h; exact ⟨0, rfl⟩
  | succ n ih =>
    rcases awaitRestWithin_next h with ⟨_, rfl⟩ | ⟨u, _, hu, ht⟩
    · exact ⟨0, rfl⟩
    · obtain ⟨_, hbudget, _⟩ := hu.keeps
      obtain ⟨k, hk⟩ := ih (hbudget ▸ hbud) ht
      exact ⟨k + 1, (run_succ (M := Sys2Proof.core) (step_none_poll hbud hu _) k).trans hk⟩

/-- A frame row is fetched from its own bytes, which stand in the channel already (notes/assumptions/5.md), so a `WAIT`
step is the wait for rest with or without a frame at the head of the channel. -/
theorem waitStep_eq_awaitRest (s : State) : waitStep s = awaitRest s := by
  unfold waitStep
  split
  · next i hf =>
    obtain ⟨rest, hrest⟩ : ∃ rest, decode .wire (headBytes 6 s.chan) = .ok (i, rest) := by
      unfold fetchFrame decoded at hf
      split at hf
      · split at hf
        · next rest hd => cases hf; exact ⟨rest, hd⟩
        · cases hf
      · cases hf
    obtain ⟨hw, hbytes⟩ := encodeWritesBackEveryDecodedWord _ _ _ _ hrest
    obtain ⟨tail, htail⟩ := headBytes_prefix 6 s.chan
    rw [← hbytes, List.map_append, List.append_assoc] at htail
    rw [exec_frameRow hw, offer_eq_self htail]
  · rfl

/-- Settles O41: a `WAIT` step is a wait for rest, whose polls are the `NONE` steps. -/
theorem waitIsIteratedNoneSteps : Obligations.WaitIsIteratedNoneSteps := by
  intro s t h hh hs
  have hbud : 1 ≤ s.budget := by
    by_contra hb
    rw [step_of_budget_zero (by omega)] at hs
    cases hs
  rw [step_wait hbud hh, waitStep_eq_awaitRest] at hs
  obtain ⟨_, _, hhost⟩ := awaitRestWithin_keeps hs
  obtain ⟨n, hn⟩ := run_none_of_awaitRestWithin (s := s.popHost) hbud hs h
  rw [withHost_self (hhost.trans (by simp [hh]))] at hn
  exact ⟨n, hn⟩

end Sys2Proof.Machine.Laws
end

section
/-! PROOF. A frame that stands whole in the channel, received phase by phase (43_read_frame.md R182 to R191): the marker, class
and id, the length, the payload, the checksum. -/

namespace Sys2Proof.Machine.Laws

/-! ## Polls that leave attempts -/

theorem orTimeout_of_att {k : Err} {s : State} (h : s.att ≠ 0) : orTimeout k s = s := if_neg h

theorem awaitRestWithin_poll {s t : State} (hp : PollEffect s t) (n : Nat) :
    awaitRestWithin (n + 1) s = awaitRestWithin n t :=
  awaitRestWithin_busy hp.busy hp.busyStep_eq n

theorem checksum_append (bs cs : List Byte) : checksum (bs ++ cs) = cs.foldl ckStep (checksum bs) :=
  List.foldl_append

/-! ## A block of payload cells -/

/-- The bytes stored one after the other from address `a` up (43_read_frame.md R187). -/
def writeBlock (m : Memory) (a : Nat) : List Byte → Memory
  | [] => m
  | b :: bs => writeBlock (m.write a b) (a + 1) bs

theorem read_writeBlock_outside (m : Memory) (a k : Nat) (bs : List Byte) (h : k < a ∨ a + bs.length ≤ k) :
    (writeBlock m a bs).read k = m.read k := by
  induction bs generalizing m a with
  | nil => rfl
  | cons b bs ih =>
    rw [List.length_cons] at h
    rw [writeBlock, ih _ _ (by omega), read_write_other _ _ _ _ (by omega)]

theorem readFrom_writeBlock (m : Memory) (a : Nat) (bs : List Byte) :
    (writeBlock m a bs).readFrom a bs.length = some bs := by
  induction bs generalizing m a with
  | nil => rfl
  | cons b bs ih =>
    have hfirst : (writeBlock (m.write a b) (a + 1) bs).read a = some b := by
      rw [read_writeBlock_outside _ _ _ _ (.inl (by omega)), read_write_same]
    simp only [writeBlock, List.length_cons, Memory.readFrom, hfirst, ih]

/-! ## The phases, each on its own bytes -/

/-- A phase of the frame read at its beginning: a fresh budget, the accumulators at the checksum of the bytes covered, and
the responses still to come. -/
def atPhase (p : St) (covered : List Byte) (todo : List (Option Byte)) (s : State) : State :=
  { s with
    st := p, cnt := 0, att := s.budget, ckA := (checksum covered).1, ckB := (checksum covered).2, chan := todo }

theorem beginRead_eq_atPhase (s : State) : beginRead s = atPhase .readingHeader [] s.chan s := rfl

/-- A first byte that leaves attempts, and a second that completes the phase. -/
theorem awaitRestWithin_two_polls {k : Err} {s t u : State} (first : PollEffect s (orTimeout k t)) (ha : t.att ≠ 0)
    (second : PollEffect t u) (n : Nat) : awaitRestWithin (n + 2) s = awaitRestWithin n u := by
  rw [orTimeout_of_att ha] at first
  rw [awaitRestWithin_poll first, awaitRestWithin_poll second]

/-- The marker of a chained search (42_sync.md R162, R163). -/
theorem awaitRestWithin_marker {s : State} {rest : List (Option Byte)} (hs : s.st = .seekingSync)
    (hm : s.midx = false) (hc : s.chain = true) (ha : 2 ≤ s.att)
    (hchan : s.chan = some Config.SYNC0 :: some Config.SYNC1 :: rest) (n : Nat) :
    awaitRestWithin (n + 2) s = awaitRestWithin n (atPhase .readingHeader [] rest s) := by
  have second := PollEffect.searchChained (s := firstMatched (polled s)) hs rfl
    (response_cons (rest := rest) (by simp [hchan])) hc
  rw [awaitRestWithin_two_polls (.searchFirst hs hm (response_cons hchan)) (by exact Nat.sub_ne_zero_of_lt ha) second]
  simp [beginRead, atPhase, clearMidx, polled, charge, State.popChan, firstMatched, hm, hchan, checksum]

/-- Class and id (43_read_frame.md R182, R183). -/
theorem awaitRestWithin_header {s : State} (hb : 2 ≤ s.budget) (c d : Byte) (rest : List (Option Byte)) (n : Nat) :
    awaitRestWithin (n + 2) (atPhase .readingHeader [] (some c :: some d :: rest) s) =
      awaitRestWithin n (atPhase .readingLength [c, d] rest { s with cls := c, id := d }) :=
  awaitRestWithin_two_polls (.headerClass c rfl rfl rfl) (by exact Nat.sub_ne_zero_of_lt hb) (.headerId d rfl rfl rfl) n

/-- The two length bytes (43_read_frame.md R184 to R186). -/
theorem awaitRestWithin_length {s : State} (hb : 2 ≤ s.budget) (covered : List Byte) (l : Half)
    (rest : List (Option Byte)) (n : Nat) :
    awaitRestWithin (n + 2) (atPhase .readingLength covered (some (lowByte l) :: some (highByte l) :: rest) s) =
      awaitRestWithin n (atPhase (afterLength l) (covered ++ [lowByte l, highByte l]) rest { s with len := l }) := by
  have second := PollEffect.lengthHigh (highByte l) (s := lengthLowStored (lowByte l)
    (polled (atPhase .readingLength covered (some (lowByte l) :: some (highByte l) :: rest) s))) rfl rfl rfl
  rw [lengthLowStored_len, lowByte_setWidth, joinBytes_lowByte_highByte] at second
  rw [awaitRestWithin_two_polls (.lengthLow (lowByte l) rfl rfl rfl) (by exact Nat.sub_ne_zero_of_lt hb) second]
  simp only [atPhase, checksum_append]
  rfl

/-- The state after the payload bytes `bs` have been stored from `cnt` up and the phase is complete. -/
def payloadRead (bs : List Byte) (rest : List (Option Byte)) (s : State) : State :=
  { s with
    st := .readingChecksum, cnt := 0, att := s.budget, chan := rest, pbuf := writeBlock s.pbuf s.cnt.toNat bs,
    ckA := (bs.foldl ckStep (s.ckA, s.ckB)).1, ckB := (bs.foldl ckStep (s.ckA, s.ckB)).2 }

/-- The payload bytes still missing, at least one of them (43_read_frame.md R187). -/
theorem awaitRestWithin_payload {s : State} {b : Byte} {bs : List Byte} {rest : List (Option Byte)}
    (hs : s.st = .readingPayload) (hlen : s.cnt.toNat + bs.length + 1 = s.len.toNat) (ha : bs.length + 1 ≤ s.att)
    (hchan : s.chan = (b :: bs).map some ++ rest) (n : Nat) :
    awaitRestWithin (n + (bs.length + 1)) s = awaitRestWithin n (payloadRead (b :: bs) rest s) := by
  have hmax := s.len.isLt
  have haddr : s.cnt.toNat < Config.PBUF_SIZE := by
    simp only [Config.PBUF_SIZE]
    omega
  induction bs generalizing s b with
  | nil =>
    obtain rfl : s.chan.tail = rest := by simp [hchan]
    rw [List.length_nil, awaitRestWithin_poll (.payloadLast b hs (response_cons hchan) haddr (by simpa using hlen))]
    rfl
  | cons b' bs ih =>
    rw [List.length_cons] at hlen ha
    have hcnt : (s.cnt + 1).toNat = s.cnt.toNat + 1 := BitVec.toNat_add_of_lt (by simp; omega)
    have first := PollEffect.payloadMore b hs (response_cons hchan) haddr (by omega)
    have hatt : s.att - 1 ≠ 0 := by omega
    rw [orTimeout_of_att (by exact hatt)] at first
    have more := ih (s := setCnt (s.cnt + 1) (ckUpdate b (storeCell s.cnt.toNat b (polled s)))) (b := b') hs
      (by simp only [setCnt_cnt, hcnt, setCnt_len, ckUpdate_len, storeCell_len, polled_len]; omega)
      (Nat.le_sub_one_of_lt ha) (by simp [hchan]) hmax
      (by simp only [setCnt_cnt, hcnt, Config.PBUF_SIZE]; omega)
    rw [List.length_cons, ← Nat.add_assoc, awaitRestWithin_poll first, more]
    simp only [payloadRead, setCnt, hcnt, ckUpdate, storeCell, polled, charge, State.popChan, writeBlock, ckStep,
      List.foldl_cons]

/-- The payload phase, skipped for an empty payload (43_read_frame.md R185 to R187). -/
theorem awaitRestWithin_afterLength {s : State} {payload : List Byte} (hlen : payload.length = s.len.toNat)
    (hb : s.len.toNat ≤ s.budget) (covered : List Byte) (rest : List (Option Byte)) (n : Nat) :
    awaitRestWithin (n + payload.length) (atPhase (afterLength s.len) covered (payload.map some ++ rest) s) =
      awaitRestWithin n (atPhase .readingChecksum (covered ++ payload) rest
        { s with pbuf := writeBlock s.pbuf 0 payload }) := by
  cases payload with
  | nil =>
    have hl : s.len = 0 := BitVec.eq_of_toNat_eq hlen.symm
    rw [afterLength, if_pos hl, List.append_nil]
    rfl
  | cons b bs =>
    rw [List.length_cons] at hlen ⊢
    have hl : s.len ≠ 0 := fun h => by simp [h] at hlen
    rw [afterLength, if_neg hl]
    rw [awaitRestWithin_payload (s := atPhase .readingPayload covered ((b :: bs).map some ++ rest) s) rfl
      ((Nat.zero_add _).symm ▸ hlen) (hlen.trans_le hb) rfl]
    simp only [atPhase, payloadRead, checksum_append]
    rfl

/-- The state in which a frame read ends by comparison of the checksum bytes `a` and `b` with the checksum of the bytes
covered (40_frame_checksum.md R126, 43_read_frame.md R188, R189). -/
def comparedAt (covered : List Byte) (a b : Byte) (rest : List (Option Byte)) (s : State) : State :=
  { s with
    rxA := a, rxB := b, chan := rest, att := s.budget - 2, cnt := 0, ckA := (checksum covered).1,
    ckB := (checksum covered).2, st := if (a, b) = checksum covered then .done else .failed,
    err := if (a, b) = checksum covered then s.err else .checksumMismatch }

theorem comparedAt_busy (covered : List Byte) (a b : Byte) (rest : List (Option Byte)) (s : State) :
    (comparedAt covered a b rest s).busy = false := by
  simp only [comparedAt, State.busy]
  split <;> rfl

/-- The two checksum bytes (43_read_frame.md R188, R189). -/
theorem awaitRestWithin_checksum {s : State} (hb : 2 ≤ s.budget) (covered : List Byte) (a b : Byte)
    (rest : List (Option Byte)) (n : Nat) :
    awaitRestWithin (n + 2) (atPhase .readingChecksum covered (some a :: some b :: rest) s) =
      .next (comparedAt covered a b rest s) := by
  have first := PollEffect.checksumFirst
    (s := atPhase .readingChecksum covered (some a :: some b :: rest) s) a rfl rfl rfl
  have ends : awaitRestWithin (n + 2) (atPhase .readingChecksum covered (some a :: some b :: rest) s) =
      awaitRestWithin n (comparedAt covered a b rest s) := by
    by_cases hv : (a, b) = checksum covered
    · obtain ⟨hA, hB⟩ := Prod.ext_iff.1 hv
      rw [awaitRestWithin_two_polls first (by exact Nat.sub_ne_zero_of_lt hb) (.checksumValid b rfl rfl rfl hA hB)]
      simp only [comparedAt, if_pos hv]
      rfl
    · rw [awaitRestWithin_two_polls first (by exact Nat.sub_ne_zero_of_lt hb)
        (.checksumInvalid b rfl rfl rfl fun ⟨hA, hB⟩ => hv (Prod.ext hA hB))]
      simp only [comparedAt, if_neg hv]
      rfl
  rw [ends, awaitRestWithin_rest (comparedAt_busy covered a b rest s)]

/-! ## The whole frame -/

/-- Every frame row, known or not, is its header's bytes offered to a block that runs until it rests
(43_read_frame.md R197). -/
theorem exec_of_frameHeader {i : Instr} {c d : Byte} {l : Half} (h : frameHeader i = some (c, d, l)) (s : State) :
    exec i s = awaitRest (s.offer (headerBytes c d l)) := by
  cases i <;> cases h <;> rfl

theorem encode_of_frameHeader {i : Instr} {c d : Byte} {l : Half} (h : frameHeader i = some (c, d, l)) :
    encode i = headerBytes c d l := by
  cases i <;> cases h <;> rfl

/-- From a chained search to the end of the frame read. -/
theorem awaitRestWithin_frame {c d a b : Byte} {l : Half} {payload : List Byte} {rest : List (Option Byte)} {s : State}
    (hlen : payload.length = l.toNat) (hs : s.st = .seekingSync) (hm : s.midx = false) (hc : s.chain = true)
    (ha : 2 ≤ s.att) (hb : 2 ≤ s.budget) (hl : l.toNat ≤ s.budget)
    (hchan : s.chan = (headerBytes c d l ++ payload ++ [a, b]).map some ++ rest) (n : Nat) :
    awaitRestWithin (n + 2 + payload.length + 2 + 2 + 2) s =
      .next (comparedAt (coveredBytes c d l payload) a b rest
        { s with cls := c, id := d, len := l, pbuf := writeBlock s.pbuf 0 payload }) := by
  have hchan' : s.chan = some Config.SYNC0 :: some Config.SYNC1 :: some c :: some d :: some (lowByte l) ::
      some (highByte l) :: (payload.map some ++ some a :: some b :: rest) := by
    simp [hchan, headerBytes]
  rw [awaitRestWithin_marker hs hm hc ha hchan', awaitRestWithin_header hb,
    awaitRestWithin_length (s := { s with cls := c, id := d }) hb,
    awaitRestWithin_afterLength (s := { s with cls := c, id := d, len := l }) hlen hl,
    awaitRestWithin_checksum (s := { s with cls := c, id := d, len := l, pbuf := writeBlock s.pbuf 0 payload }) hb]
  rfl

/-- Settles O39: the bytes of the row stand at the head of the channel, and the wait for rest is long enough for the
phases of the frame. -/
theorem frameRowsReceiveTheWholeFrame : Obligations.FrameRowsReceiveTheWholeFrame := by
  intro i c d a b l payload rest s hi hlen hs hm hc ha hb hl hchan
  rw [encode_of_frameHeader hi] at hchan
  have hoffer : s.offer (headerBytes c d l) = s :=
    offer_eq_self (rest := (payload ++ [a, b]).map some ++ rest) (by simp [hchan])
  obtain ⟨n, hn⟩ : ∃ n, pollBound s = n + 2 + payload.length + 2 + 2 + 2 :=
    ⟨pollBound s - (payload.length + 8), by unfold pollBound; omega⟩
  refine ⟨_, writeBlock s.pbuf 0 payload, ?_, hlen ▸ readFrom_writeBlock s.pbuf 0 payload,
    fun k hk => read_writeBlock_outside _ _ _ _ (.inr (by omega)), rfl⟩
  rw [exec_of_frameHeader hi, hoffer, awaitRest, hn]
  exact awaitRestWithin_frame hlen hs hm hc ha hb hl hchan n

end Sys2Proof.Machine.Laws
end

section
/-! PROOF. The checksum in closed form, what one changed byte does to it, and `serialize` read back
(40_frame_checksum.md R122 to R130). -/

namespace Sys2Proof.Machine.Laws

/-! ## The accumulators -/

/-- Settles O47: a bit vector's addition drops the carry. -/
theorem ckUpdateAddsTheNewA : Obligations.CkUpdateAddsTheNewA :=
  fun _ _ => ⟨BitVec.toNat_add _ _, BitVec.toNat_add _ _, rfl⟩

/-! ## The closed form -/

/-- The sum of the bytes, as a natural number (40_frame_checksum.md R124). -/
def byteSum (bs : List Byte) : Nat := (bs.map BitVec.toNat).sum

/-- The sum of the bytes with weight `n - i` at index `i` (40_frame_checksum.md R124). -/
def weightedSum (bs : List Byte) : Nat := (bs.zipIdx.map (fun p => (bs.length - p.2) * p.1.toNat)).sum

theorem byteSum_cons (b : Byte) (bs : List Byte) : byteSum (b :: bs) = b.toNat + byteSum bs := by
  simp [byteSum]

theorem byteSum_append (bs cs : List Byte) : byteSum (bs ++ cs) = byteSum bs + byteSum cs := by
  simp [byteSum]

/-- The bytes after the first keep their weights: each has moved by one place in a sequence longer by one. -/
theorem weightedSum_cons (b : Byte) (bs : List Byte) :
    weightedSum (b :: bs) = (bs.length + 1) * b.toNat + weightedSum bs := by
  simp [weightedSum, List.zipIdx_succ, Function.comp_def]

/-- The accumulators after more bytes: what stands in A goes into B once with each of them. -/
theorem foldl_ckStep_toNat (bs : List Byte) (ck : Byte × Byte) :
    (bs.foldl ckStep ck).1.toNat = (ck.1.toNat + byteSum bs) % 256 ∧
      (bs.foldl ckStep ck).2.toNat = (ck.2.toNat + bs.length * ck.1.toNat + weightedSum bs) % 256 := by
  induction bs generalizing ck with
  | nil => simp [byteSum, weightedSum, Nat.mod_eq_of_lt ck.1.isLt, Nat.mod_eq_of_lt ck.2.isLt]
  | cons b bs ih =>
    obtain ⟨ihA, ihB⟩ := ih (ckStep ck b)
    have hA : (ckStep ck b).1.toNat ≡ ck.1.toNat + b.toNat [MOD 256] :=
      BitVec.toNat_add ck.1 b ▸ Nat.mod_modEq _ _
    have hB : (ckStep ck b).2.toNat ≡ ck.2.toNat + (ck.1.toNat + b.toNat) [MOD 256] :=
      (BitVec.toNat_add ck.2 _ ▸ Nat.mod_modEq _ _ : _ ≡ _ [MOD 256]).trans (hA.add_left _)
    rw [List.foldl_cons, List.length_cons, byteSum_cons, weightedSum_cons, ihA, ihB]
    constructor
    · calc (ckStep ck b).1.toNat + byteSum bs
          ≡ ck.1.toNat + b.toNat + byteSum bs [MOD 256] := hA.add_right _
        _ = ck.1.toNat + (b.toNat + byteSum bs) := Nat.add_assoc _ _ _
    · calc (ckStep ck b).2.toNat + bs.length * (ckStep ck b).1.toNat + weightedSum bs
          ≡ ck.2.toNat + (ck.1.toNat + b.toNat) + bs.length * (ck.1.toNat + b.toNat) + weightedSum bs [MOD 256] :=
            (hB.add (hA.mul_left _)).add_right _
        _ = ck.2.toNat + (bs.length + 1) * ck.1.toNat + ((bs.length + 1) * b.toNat + weightedSum bs) := by ring

/-- Settles O48: both accumulators start at 0. -/
theorem checksumClosedForm : Obligations.ChecksumClosedForm := by
  intro bs
  simpa [checksum, byteSum, weightedSum] using foldl_ckStep_toNat bs (0, 0)

/-! ## One changed byte -/

theorem checksum_fst_toNat (bs : List Byte) : (checksum bs).1.toNat = byteSum bs % 256 := (checksumClosedForm bs).1

/-- Checksum A tells two sequences apart that differ in one byte (40_frame_checksum.md R130 (a)). -/
theorem checksum_ne_of_one_byte {x y : Byte} (h : x ≠ y) (pre post : List Byte) :
    checksum (pre ++ x :: post) ≠ checksum (pre ++ y :: post) := by
  intro heq
  have hA := congrArg (fun ck : Byte × Byte => ck.1.toNat) heq
  simp only [checksum_fst_toNat, byteSum_append, byteSum_cons] at hA
  exact h (BitVec.eq_of_toNat_eq (by omega))

theorem ne_flipBit {k : Nat} (hk : k < 8) (b : Byte) : b ≠ flipBit b k := by
  intro h
  have hbit := congrArg (BitVec.getLsbD · k) h
  simp [flipBit, hk] at hbit

/-- A flipped bit of class, id or payload leaves the length field and changes the checksum. -/
theorem frameCk_ne_of_oneBitFlipped {f g : Frame} (h : oneBitFlipped f g) : frameCk f ≠ frameCk g := by
  obtain ⟨k, hk, rfl | rfl | ⟨pre, b, post, hp, rfl⟩⟩ := h
  · exact checksum_ne_of_one_byte (ne_flipBit hk f.cls) [] _
  · exact checksum_ne_of_one_byte (ne_flipBit hk f.msgId) [f.cls] _
  · have hlen : Frame.lenField { f with payload := pre ++ flipBit b k :: post } = f.lenField := by
      simp [Frame.lenField, hp]
    have hne := checksum_ne_of_one_byte (ne_flipBit hk b)
      ([f.cls, f.msgId, lowByte f.lenField, highByte f.lenField] ++ pre) post
    rw [frameCk, frameCk, hlen, hp]
    simpa only [coveredBytes, List.append_assoc] using hne

/-! ## Serialization -/

theorem lenField_toNat {f : Frame} (h : f.fits = true) : f.lenField.toNat = f.payload.length := by
  have hle : f.payload.length ≤ 65535 := of_decide_eq_true h
  exact Nat.mod_eq_of_lt (by omega)

theorem serialize_length (f : Frame) : (serialize f).length = 8 + f.payload.length := by
  simp [serialize, headerBytes]
  omega

/-- Settles O49: class and id stand in the header, and the payload stands between the header and the last two bytes. -/
theorem serializeIsInjective : Obligations.SerializeIsInjective := by
  refine ⟨fun f g _ _ h => ?_, serialize_length⟩
  obtain ⟨hbody, _⟩ := List.append_inj' h rfl
  obtain ⟨hheader, hpayload⟩ := List.append_inj hbody rfl
  obtain ⟨_, _, hcls, hid, _⟩ : _ ∧ _ ∧ f.cls = g.cls ∧ f.msgId = g.msgId ∧ _ := by
    simpa only [headerBytes, List.cons.injEq] using hheader
  exact congr (congr (congrArg Frame.mk hcls) hid) hpayload

end Sys2Proof.Machine.Laws
end

section
/-! PROOF. A frame whose bytes come with empty polls between them, phase by phase (40_frame_checksum.md R129, 43_read_frame.md
R181 to R191), and the two endings of its read: `DONE` with that frame, and `CHECKSUM_MISMATCH` (R130). -/

namespace Sys2Proof.Machine.Laws

/-! ## What one phase is delivered -/

theorem delivers_bytes {n : Nat} {bs : List Byte} {c : List (Option Byte)} (h : delivers n bs c) :
    c.filterMap (fun r => r) = bs := h.1

theorem delivers_length_le {n : Nat} {bs : List Byte} {c : List (Option Byte)} (h : delivers n bs c) :
    c.length ≤ n := h.2.1

theorem delivers_getLast? {n : Nat} {bs : List Byte} {c : List (Option Byte)} (h : delivers n bs c) :
    c.getLast? ≠ some none := h.2.2

theorem delivers_map_some {n : Nat} {bs : List Byte} (h : bs.length ≤ n) : delivers n bs (bs.map some) := by
  refine ⟨by simp [List.filterMap_map], by simpa using h, fun hlast => ?_⟩
  simpa using List.mem_of_getLast? hlast

/-- An empty poll is never the last one of a phase. -/
theorem delivers_none_cons {n : Nat} {bs : List Byte} {c : List (Option Byte)} (h : delivers n bs (none :: c)) :
    ∃ m, n = m + 2 ∧ delivers (m + 1) bs c := by
  obtain ⟨hbytes, hlen, hlast⟩ := h
  cases c with
  | nil => exact absurd rfl hlast
  | cons r c =>
    simp only [List.length_cons] at hlen
    refine ⟨n - 2, by omega, hbytes, by simp only [List.length_cons]; omega, ?_⟩
    rwa [List.getLast?_cons_cons] at hlast

theorem delivers_some_cons {n : Nat} {b : Byte} {bs : List Byte} {c : List (Option Byte)}
    (h : delivers n bs (some b :: c)) : ∃ m bs', n = m + 1 ∧ bs = b :: bs' ∧ delivers m bs' c := by
  obtain ⟨hbytes, hlen, hlast⟩ := h
  rw [List.length_cons] at hlen
  refine ⟨n - 1, c.filterMap (fun r => r), by omega, hbytes.symm, rfl, by omega, fun hnone => hlast ?_⟩
  rw [List.getLast?_cons, hnone]
  rfl

/-- A phase without bytes has no polls. -/
theorem delivers_nil {n : Nat} {c : List (Option Byte)} (h : delivers n [] c) : c = [] := by
  induction c generalizing n with
  | nil => rfl
  | cons r c ih =>
    cases r with
    | none =>
      obtain ⟨m, rfl, hc⟩ := delivers_none_cons h
      cases ih hc
      exact absurd rfl (delivers_getLast? h)
    | some b =>
      obtain ⟨_, _, _, hbs, _⟩ := delivers_some_cons h
      cases hbs

theorem delivers_ne_zero {n : Nat} {b : Byte} {bs : List Byte} {c : List (Option Byte)} (h : delivers n (b :: bs) c) :
    n ≠ 0 := by
  rintro rfl
  cases List.eq_nil_of_length_eq_zero (Nat.le_zero.1 (delivers_length_le h))
  cases delivers_bytes h

/-! ## Waiting for one byte -/

/-- The same state with `a` attempts left and these responses to come. -/
def awaiting (a : Nat) (todo : List (Option Byte)) (s : State) : State := { s with att := a, chan := todo }

theorem awaiting_len (a : Nat) (todo : List (Option Byte)) (s : State) : (awaiting a todo s).len = s.len := rfl

/-- An empty poll costs one attempt, in the search and in a read (42_sync.md R161, 43_read_frame.md R181). -/
theorem awaitRestWithin_empty {s : State} (hb : s.busy = true) (a n : Nat) (todo : List (Option Byte)) :
    awaitRestWithin (n + 1) (awaiting (a + 2) (none :: todo) s) = awaitRestWithin n (awaiting (a + 1) todo s) := by
  cases hr : s.st.reading with
  | true => exact awaitRestWithin_poll (.readEmpty (s := awaiting (a + 2) (none :: todo) s) hr rfl) n
  | false =>
    have hs : s.st = .seekingSync := by simpa [St.reading, show s.st.busy = true from hb] using hr
    exact awaitRestWithin_poll (.searchEmpty (s := awaiting (a + 2) (none :: todo) s) hs rfl) n

/-- The empty polls before the first byte of what a phase is delivered. -/
theorem awaitRestWithin_firstByte {s : State} {a : Nat} {b : Byte} {bs : List Byte} {c : List (Option Byte)}
    (hb : s.busy = true) (h : delivers a (b :: bs) c) :
    ∃ a' c', delivers a' bs c' ∧ ∀ n rest, awaitRestWithin (n + c.length) (awaiting a (c ++ rest) s) =
      awaitRestWithin (n + c'.length + 1) (awaiting (a' + 1) (some b :: (c' ++ rest)) s) := by
  induction c generalizing a with
  | nil => cases delivers_bytes h
  | cons r c ih =>
    cases r with
    | none =>
      obtain ⟨m, rfl, hc⟩ := delivers_none_cons h
      obtain ⟨a', c', hc', hrun⟩ := ih hc
      exact ⟨a', c', hc', fun n rest => (awaitRestWithin_empty hb m _ _).trans (hrun n rest)⟩
    | some x =>
      obtain ⟨m, bs', rfl, hbs, hc⟩ := delivers_some_cons h
      cases hbs
      exact ⟨m, c, hc, fun _ _ => rfl⟩

/-! ## The phases of two bytes -/

/-- A phase of two bytes: `t` is the state between them, `u` the state after them. -/
theorem awaitRestWithin_pair {k : Err} {s t : State} {u : Nat → List (Option Byte) → State} {x y : Byte} {a : Nat}
    {c : List (Option Byte)}
    (first : ∀ a todo, PollEffect (awaiting (a + 1) (some x :: todo) s) (orTimeout k (awaiting a todo t)))
    (second : ∀ a todo, PollEffect (awaiting (a + 1) (some y :: todo) t) (u a todo)) (h : delivers a [x, y] c) :
    ∃ a', ∀ n rest, awaitRestWithin (n + c.length) (awaiting a (c ++ rest) s) = awaitRestWithin n (u a' rest) := by
  obtain ⟨a₁, c₁, h₁, run₁⟩ := awaitRestWithin_firstByte (s := s) (first 0 []).busy h
  obtain ⟨a₂, c₂, h₂, run₂⟩ := awaitRestWithin_firstByte (s := t) (second 0 []).busy h₁
  cases delivers_nil h₂
  refine ⟨a₂, fun n rest => ?_⟩
  have poll₁ := first a₁ (c₁ ++ rest)
  rw [orTimeout_of_att (by exact delivers_ne_zero h₁)] at poll₁
  rw [run₁, awaitRestWithin_poll poll₁, run₂]
  exact awaitRestWithin_poll (second a₂ rest) n

/-- The marker of a chained search (42_sync.md R162, R163). -/
theorem awaitRestWithin_deliveredMarker {s : State} {c : List (Option Byte)}
    (h : delivers s.budget [Config.SYNC0, Config.SYNC1] c) (n : Nat) (rest : List (Option Byte)) :
    awaitRestWithin (n + c.length) (awaiting s.budget (c ++ rest) (startSearch true s)) =
      awaitRestWithin n (atPhase .readingHeader [] rest (startSearch true s)) := by
  obtain ⟨_, run⟩ := awaitRestWithin_pair (s := startSearch true s) (t := firstMatched (startSearch true s))
    (fun _ _ => .searchFirst rfl rfl rfl) (fun _ _ => .searchChained rfl rfl rfl rfl) h
  exact run n rest

/-- Class and id (43_read_frame.md R182, R183). -/
theorem awaitRestWithin_deliveredHeader {s : State} {x y : Byte} {c : List (Option Byte)}
    (h : delivers s.budget [x, y] c) (n : Nat) (rest : List (Option Byte)) :
    awaitRestWithin (n + c.length) (atPhase .readingHeader [] (c ++ rest) s) =
      awaitRestWithin n (atPhase .readingLength [x, y] rest { s with cls := x, id := y }) := by
  obtain ⟨_, run⟩ := awaitRestWithin_pair (s := atPhase .readingHeader [] [] s)
    (t := classStored x (atPhase .readingHeader [] [] s))
    (fun _ _ => .headerClass x rfl rfl rfl) (fun _ _ => .headerId y rfl rfl rfl) h
  exact run n rest

/-- The two length bytes (43_read_frame.md R184 to R186). -/
theorem awaitRestWithin_deliveredLength {s : State} {l : Half} {c : List (Option Byte)} (covered : List Byte)
    (h : delivers s.budget [lowByte l, highByte l] c) (n : Nat) (rest : List (Option Byte)) :
    awaitRestWithin (n + c.length) (atPhase .readingLength covered (c ++ rest) s) =
      awaitRestWithin n (atPhase (afterLength l) (covered ++ [lowByte l, highByte l]) rest { s with len := l }) := by
  have second : ∀ a todo, PollEffect
      (awaiting (a + 1) (some (highByte l) :: todo) (lengthLowStored (lowByte l) (atPhase .readingLength covered [] s)))
      (atPhase (afterLength l) (covered ++ [lowByte l, highByte l]) todo { s with len := l }) := by
    intro a todo
    have high := PollEffect.lengthHigh (highByte l) (s := awaiting (a + 1) (some (highByte l) :: todo)
      (lengthLowStored (lowByte l) (atPhase .readingLength covered [] s))) rfl rfl rfl
    rw [awaiting_len, lengthLowStored_len, lowByte_setWidth, joinBytes_lowByte_highByte] at high
    simp only [atPhase, checksum_append] at high ⊢
    exact high
  obtain ⟨_, run⟩ := awaitRestWithin_pair (s := atPhase .readingLength covered [] s)
    (fun _ _ => .lengthLow (lowByte l) rfl rfl rfl) second h
  exact run n rest

/-- The two checksum bytes (43_read_frame.md R188, R189); the attempts that are left stay in `att`. -/
theorem awaitRestWithin_deliveredChecksum {s : State} {x y : Byte} {c : List (Option Byte)} (covered : List Byte)
    (h : delivers s.budget [x, y] c) :
    ∃ a, ∀ n rest, awaitRestWithin (n + c.length) (atPhase .readingChecksum covered (c ++ rest) s) =
      .next (awaiting a rest (comparedAt covered x y [] s)) := by
  have second : ∀ a todo, PollEffect
      (awaiting (a + 1) (some y :: todo) (rxAStored x (atPhase .readingChecksum covered [] s)))
      (awaiting a todo (comparedAt covered x y [] s)) := by
    intro a todo
    by_cases hv : (x, y) = checksum covered
    · obtain ⟨hA, hB⟩ := Prod.ext_iff.1 hv
      simp only [comparedAt, if_pos hv]
      exact .checksumValid y rfl rfl rfl hA hB
    · simp only [comparedAt, if_neg hv]
      exact .checksumInvalid y rfl rfl rfl fun ⟨hA, hB⟩ => hv (Prod.ext hA hB)
  obtain ⟨a, run⟩ := awaitRestWithin_pair (s := atPhase .readingChecksum covered [] s)
    (fun _ _ => .checksumFirst x rfl rfl rfl) second h
  exact ⟨a, fun n rest => (run n rest).trans (awaitRestWithin_rest
    (s := awaiting a rest (comparedAt covered x y [] s)) (comparedAt_busy covered x y [] s) n)⟩

/-! ## The payload phase -/

theorem cnt_lt_PBUF_SIZE {s : State} (h : s.cnt.toNat < s.len.toNat) : s.cnt.toNat < Config.PBUF_SIZE := by
  have hmax := s.len.isLt
  simp only [Config.PBUF_SIZE]
  omega

/-- The payload bytes still missing, at least one of them (43_read_frame.md R187). -/
theorem awaitRestWithin_deliveredPayload {s : State} {b : Byte} {bs : List Byte} {a : Nat} {c : List (Option Byte)}
    (hs : s.st = .readingPayload) (hlen : s.cnt.toNat + bs.length + 1 = s.len.toNat) (h : delivers a (b :: bs) c)
    (n : Nat) (rest : List (Option Byte)) :
    awaitRestWithin (n + c.length) (awaiting a (c ++ rest) s) = awaitRestWithin n (payloadRead (b :: bs) rest s) := by
  induction bs generalizing s a b c with
  | nil =>
    have haddr : s.cnt.toNat < Config.PBUF_SIZE := cnt_lt_PBUF_SIZE (by omega)
    obtain ⟨a', c', hc', run⟩ := awaitRestWithin_firstByte (s := s) (by rw [State.busy, hs]; rfl) h
    cases delivers_nil hc'
    rw [run]
    exact awaitRestWithin_poll (.payloadLast (s := awaiting (a' + 1) (some b :: rest) s) b hs rfl haddr hlen) n
  | cons b' bs ih =>
    rw [List.length_cons] at hlen
    have haddr : s.cnt.toNat < Config.PBUF_SIZE := cnt_lt_PBUF_SIZE (by omega)
    have hcnt : (s.cnt + 1).toNat = s.cnt.toNat + 1 := BitVec.toNat_add_of_lt (by have := s.len.isLt; simp; omega)
    obtain ⟨a', c', hc', run⟩ := awaitRestWithin_firstByte (s := s) (by rw [State.busy, hs]; rfl) h
    have poll := PollEffect.payloadMore (s := awaiting (a' + 1) (some b :: (c' ++ rest)) s) b hs rfl haddr
      (by change s.cnt.toNat + 1 ≠ s.len.toNat; omega)
    rw [orTimeout_of_att (by exact delivers_ne_zero hc')] at poll
    have more := ih (s := setCnt (s.cnt + 1) (ckUpdate b (storeCell s.cnt.toNat b s))) hs
      (by rw [setCnt_cnt, hcnt, setCnt_len, ckUpdate_len, storeCell_len]; omega) hc'
    rw [run, awaitRestWithin_poll poll]
    refine more.trans (congrArg _ ?_)
    simp only [payloadRead, setCnt, hcnt]
    rfl

/-- The payload phase, skipped for an empty payload (43_read_frame.md R185 to R187). -/
theorem awaitRestWithin_deliveredAfterLength {s : State} {payload covered : List Byte} {c : List (Option Byte)}
    (hlen : payload.length = s.len.toNat) (h : delivers s.budget payload c) (n : Nat) (rest : List (Option Byte)) :
    awaitRestWithin (n + c.length) (atPhase (afterLength s.len) covered (c ++ rest) s) =
      awaitRestWithin n (atPhase .readingChecksum (covered ++ payload) rest
        { s with pbuf := writeBlock s.pbuf 0 payload }) := by
  cases payload with
  | nil =>
    cases delivers_nil h
    have hl : s.len = 0 := BitVec.eq_of_toNat_eq hlen.symm
    rw [afterLength, if_pos hl, List.append_nil]
    rfl
  | cons b bs =>
    rw [List.length_cons] at hlen
    have hl : s.len ≠ 0 := fun hl => by simp [hl] at hlen
    rw [afterLength, if_neg hl]
    refine (awaitRestWithin_deliveredPayload (s := atPhase .readingPayload covered [] s) rfl
      ((Nat.zero_add _).symm ▸ hlen) h n rest).trans (congrArg _ ?_)
    simp only [atPhase, payloadRead, checksum_append]
    rfl

/-! ## The whole frame -/

/-- The state in which the read of a frame ends, its checksum bytes compared, with `a` attempts left and these responses to
come. -/
def frameCompared (f : Frame) (x y : Byte) (a : Nat) (rest : List (Option Byte)) (s : State) : State :=
  awaiting a rest (comparedAt (coveredBytes f.cls f.msgId f.lenField f.payload) x y []
    { startSearch true s with
      cls := f.cls, id := f.msgId, len := f.lenField, pbuf := writeBlock s.pbuf 0 f.payload })

/-- `RECV` on a frame's bytes followed by any two checksum bytes, with empty polls that leave each phase enough budget. -/
theorem exec_recv_frame {f : Frame} {x y : Byte} {s : State} {c0 c1 c2 c3 c4 rest : List (Option Byte)}
    (hf : f.fits = true) (hs : s.busy = false) (h0 : delivers s.budget [Config.SYNC0, Config.SYNC1] c0)
    (h1 : delivers s.budget [f.cls, f.msgId] c1)
    (h2 : delivers s.budget [lowByte f.lenField, highByte f.lenField] c2) (h3 : delivers s.budget f.payload c3)
    (h4 : delivers s.budget [x, y] c4) (hchan : s.chan = c0 ++ c1 ++ c2 ++ c3 ++ c4 ++ rest) :
    ∃ u a, exec .recv s = .next u ∧ awaitRest u = .next (frameCompared f x y a rest s) := by
  have hstart : startSearch true s =
      awaiting s.budget (c0 ++ (c1 ++ (c2 ++ (c3 ++ (c4 ++ rest))))) (startSearch true s) := by
    simp only [awaiting, startSearch, hchan, List.append_assoc]
  obtain ⟨n, hn⟩ : ∃ n, pollBound (startSearch true s) =
      n + c4.length + c3.length + c2.length + c1.length + c0.length :=
    ⟨pollBound (startSearch true s) - (c4.length + c3.length + c2.length + c1.length + c0.length), by
      have len0 := delivers_length_le h0
      have len1 := delivers_length_le h1
      have len2 := delivers_length_le h2
      have len3 := delivers_length_le h3
      have len4 := delivers_length_le h4
      simp only [pollBound, startSearch]
      omega⟩
  obtain ⟨a, hend⟩ := awaitRestWithin_deliveredChecksum
    (s := { startSearch true s with
      cls := f.cls, id := f.msgId, len := f.lenField, pbuf := writeBlock s.pbuf 0 f.payload })
    (coveredBytes f.cls f.msgId f.lenField f.payload) h4
  refine ⟨startSearch true s, a, atRest_rest hs _, ?_⟩
  rw [awaitRest, hn, hstart, awaitRestWithin_deliveredMarker h0,
    awaitRestWithin_deliveredHeader (s := startSearch true s) h1,
    awaitRestWithin_deliveredLength (s := { startSearch true s with cls := f.cls, id := f.msgId }) _ h2,
    awaitRestWithin_deliveredAfterLength
      (s := { startSearch true s with cls := f.cls, id := f.msgId, len := f.lenField }) (lenField_toNat hf).symm h3]
  exact hend n rest

/-- The read of a frame with its own checksum ends in `DONE` with that frame (40_frame_checksum.md R126). -/
theorem frameOf_frameCompared {f : Frame} (hf : f.fits = true) {x y : Byte} (hck : (x, y) = frameCk f) (a : Nat)
    (rest : List (Option Byte)) (s : State) :
    (frameCompared f x y a rest s).st = .done ∧ frameOf (frameCompared f x y a rest s) = some f := by
  have hdone : (frameCompared f x y a rest s).st = .done := if_pos hck
  have hpayload : payloadOf (frameCompared f x y a rest s) = some f.payload := by
    have hread := readFrom_writeBlock s.pbuf 0 f.payload
    rwa [← lenField_toNat hf] at hread
  exact ⟨hdone, frameOf_done hdone hpayload⟩

/-- The read of a frame with other checksum bytes than its own fails (40_frame_checksum.md R126). -/
theorem frameCompared_failed {f : Frame} {x y : Byte} (hck : (x, y) ≠ frameCk f) (a : Nat) (rest : List (Option Byte))
    (s : State) :
    (frameCompared f x y a rest s).st = .failed ∧ (frameCompared f x y a rest s).err = .checksumMismatch :=
  ⟨if_neg hck, if_neg hck⟩

/-- Settles O38: the five phases take what each is delivered, and the checksum bytes are the frame's own. -/
theorem serializedFrameIsReceived : Obligations.SerializedFrameIsReceived := by
  intro f s c0 c1 c2 c3 c4 rest hf hs h0 h1 h2 h3 h4 hchan
  obtain ⟨u, a, hrecv, hwait⟩ := exec_recv_frame hf hs h0 h1 h2 h3 h4 hchan
  obtain ⟨hdone, hframe⟩ := frameOf_frameCompared hf rfl a rest s
  refine ⟨?_, u, _, hrecv, hwait, hdone, hframe, rfl⟩
  simp only [List.filterMap_append, delivers_bytes h0, delivers_bytes h1, delivers_bytes h2, delivers_bytes h3,
    delivers_bytes h4]
  rfl

/-- Settles O50: the received checksum bytes are not those of the received frame. -/
theorem singleBitErrorsAreRejected : Obligations.SingleBitErrorsAreRejected := by
  intro f g x y s rest hg hs hb hl herr hchan
  have hck : (x, y) ≠ frameCk g := by
    rcases herr with ⟨hflip, hck⟩ | hck
    · exact hck ▸ frameCk_ne_of_oneBitFlipped hflip
    · exact hck
  have pair : ∀ v w : Byte, delivers s.budget [v, w] ([v, w].map some) := fun v w => delivers_map_some hb
  obtain ⟨u, a, hrecv, hwait⟩ := exec_recv_frame hg hs (pair _ _) (pair _ _) (pair _ _) (delivers_map_some hl)
    (pair x y) (rest := rest) (by simp [hchan, headerBytes])
  obtain ⟨hfailed, herr⟩ := frameCompared_failed hck a rest s
  exact ⟨u, _, hrecv, hwait, hfailed, herr, rfl⟩

end Sys2Proof.Machine.Laws
end

section
/-! PROOF. The commands (41_step_commands.md R140 to R148): which instruction a step runs, what each command does at
rest, and that a busy state does not look at the `cmd` port. -/

namespace Sys2Proof.Machine.Laws

/-! ## The instruction of a step, by the state it starts in -/

theorem fetchStep_rest {s : State} (hb : s.busy = false) (c : BitVec 2) : fetchStep c s = decodeCommand c := by
  simp [fetchStep, hb]

theorem fetchStep_search {s : State} {b : Byte} (hs : s.st = .seekingSync) (hr : s.response = some b) (c : BitVec 2) :
    fetchStep c s = decodeSyncByte s.midx b := by
  have hb : s.busy = true := by rw [State.busy, hs]; rfl
  simp [fetchStep, hb, hs, hr]

/-- A busy step that takes no byte of a search stands for `NONE` (41_step_commands.md R148). -/
theorem fetchStep_poll {s : State} (hb : s.busy = true) (hn : s.st = .seekingSync → s.response = none)
    (c : BitVec 2) : fetchStep c s = .none := by
  by_cases hs : s.st = .seekingSync
  · simp [fetchStep, hb, hs, hn hs]
  · simp [fetchStep, hb, beq_eq_false_iff_ne.2 hs]

theorem fetchFrame_of_decode {s : State} {i : Instr} {rest : List Byte} (hs : s.st = .seekingSync)
    (hm : s.midx = false) (hd : decode .wire (headBytes 6 s.chan) = .ok (i, rest)) : fetchFrame s = some i := by
  rw [fetchFrame, if_pos ⟨hs, hm⟩, decoded, hd]

/-- A step in which the host drives the ports runs what is fetched. -/
theorem step_drive_fetch {s : State} {c : BitVec 2} {a : Half} {h : List HostAct} (hbud : 1 ≤ s.budget)
    (hh : s.host = .drive false c a :: h) : step s = exec (fetchStep c s.popHost) s.popHost :=
  step_drive hbud hh

/-- A host with no action left is one that presents `NONE` (notes/assumptions/1.md). -/
theorem step_quiet_drive {s : State} (hbud : 1 ≤ s.budget) (hh : s.host = []) :
    step s = step (withHost [.drive false 0 0] s) := by
  rw [step_quiet hbud hh, step_drive (s := withHost [.drive false 0 0] s) hbud rfl, popHost_withHost_cons,
    withHost_self hh]

theorem step_wait_fetched {s : State} {h : List HostAct} {i : Instr} (hbud : 1 ≤ s.budget) (hh : s.host = .wait :: h)
    (hf : fetchFrame s.popHost = some i) : step s = exec i s.popHost := by
  rw [step_wait hbud hh, waitStep, hf]

/-- Settles O9: each kind of step by the equation of what it fetches. -/
theorem stepRunsDecodedInstruction : Obligations.StepRunsDecodedInstruction := by
  intro s hbud
  refine ⟨fun c a h hh => ⟨fun i hb hd => ?_, fun b i hs hr hd => ?_, fun hb hn => ?_⟩, step_quiet_drive hbud,
    fun h hh => ⟨fun i rest hs hm hd => ?_, fun _ => ?_⟩⟩
  · rw [decode_commandByte] at hd
    cases hd
    rw [step_drive_fetch hbud hh, fetchStep_rest (s := s.popHost) hb]
  · rw [decode_marker] at hd
    cases hd
    rw [step_drive_fetch hbud hh, fetchStep_search (s := s.popHost) hs hr, popHost_midx]
  · rw [step_drive_fetch hbud hh, fetchStep_poll (s := s.popHost) hb hn]
  · exact step_wait_fetched hbud hh (fetchFrame_of_decode (s := s.popHost) hs hm hd)
  · rw [step_wait hbud hh, waitStep_eq_awaitRest]

/-! ## The meaning of every command is guarded by rest -/

/-- What a command does where it is accepted (41_step_commands.md R141 to R146); the other rows are no commands. -/
def accepted (i : Instr) : State → State :=
  match i with
  | .sync => startSearch false
  | .read => acceptRead
  | .recv => startSearch true
  | _ => fun s => s

theorem exec_command {i : Instr} (hw : wellFormed .cmd i = true) (s : State) : exec i s = atRest (accepted i) s := by
  cases i with
  | none => rfl
  | sync => rfl
  | read => rfl
  | recv => rfl
  | _ => cases hw

theorem exec_command_rest {i : Instr} {s : State} (hw : wellFormed .cmd i = true) (hb : s.busy = false) :
    exec i s = .next (accepted i s) := by
  rw [exec_command hw, atRest_rest hb]

theorem exec_command_busy {i : Instr} {s : State} (hw : wellFormed .cmd i = true) (hb : s.busy = true) :
    exec i s = busyStep s := by
  rw [exec_command hw, atRest_busy hb]

theorem acceptRead_synced {s : State} (hs : s.st = .synced) : acceptRead s = beginRead (noError (unchained s)) :=
  if_pos hs

theorem acceptRead_unsynced {s : State} (hs : s.st ≠ .synced) : acceptRead s = fail .notSynced (unchained s) :=
  if_neg hs

/-- Settles O10: a busy state polls, whatever stands on the port and whichever command is executed. -/
theorem commandsAreIgnoredWhileBusy : Obligations.CommandsAreIgnoredWhileBusy := by
  intro s c a h hbud hb hh
  have hpop : s.popHost = { s with host := h } := by simp [State.popHost, hh]
  refine ⟨?_, fun i hw => exec_command_busy hw hb⟩
  rw [step_drive hbud hh, cmdStep_busy (s := s.popHost) hb, hpop]

/-- Settles O17: `NONE` accepts nothing, and polls in a busy state as every command does. -/
theorem noneAtRestChangesNothing : Obligations.NoneAtRestChangesNothing :=
  ⟨rfl, fun _ hb => exec_command_rest rfl hb, fun _ hb => exec_command_busy rfl hb⟩

/-- Settles O18: what `SYNC` is accepted as, `startSearch` with `chain = 0`. -/
theorem syncStartsASearch : Obligations.SyncStartsASearch :=
  fun _ hb => exec_command_rest rfl hb

/-- Settles O19: what `RECV` is accepted as, `startSearch` with `chain = 1`. -/
theorem recvStartsAChainedSearch : Obligations.RecvStartsAChainedSearch :=
  fun _ hb => exec_command_rest rfl hb

/-- Settles O20: the branch of `READ` in `SYNCED`. -/
theorem readFromSyncedBeginsAFrameRead : Obligations.ReadFromSyncedBeginsAFrameRead := by
  intro s hs
  have hb : s.busy = false := by rw [State.busy, hs]; rfl
  rw [exec_command_rest rfl hb, accepted, acceptRead_synced hs]
  rfl

/-- Settles O21: the branch of `READ` in the other rest states. -/
theorem readOutsideSyncedFails : Obligations.ReadOutsideSyncedFails := by
  intro s hs
  have hrest : s.busy = false ∧ s.st ≠ .synced := by
    rcases hs with hs | hs | hs
    all_goals simp [State.busy, St.busy, hs]
  obtain ⟨hb, hsynced⟩ := hrest
  rw [exec_command_rest rfl hb, accepted, acceptRead_unsynced hsynced]
  rfl

end Sys2Proof.Machine.Laws
end

section
/-! PROOF. The transition table (41_step_commands.md R151): the rows of the commands, and the row of each busy state read
off its poll. -/

namespace Sys2Proof.Machine.Laws

/-! ## The rows of the busy states -/

/-- The last two rows of every busy state: the attempts decide. -/
theorem orTimeout_row {k : Err} {p : St} {s : State} (hs : s.st = p) :
    if s.att = 0 then (orTimeout k s).st = .failed ∧ (orTimeout k s).err = k else (orTimeout k s).st = p := by
  split
  · next ha => simp [ha]
  · next ha => simp [ha, hs]

theorem syncFound_st (s : State) : (syncFound s).st = if s.chain = true then .readingHeader else .synced := by
  cases hc : s.chain with
  | false => rw [syncFound_synced hc]; rfl
  | true => rw [syncFound_chained hc]; rfl

theorem seekPoll_row {r : Option Byte} {s : State} (hs : s.st = .seekingSync) :
    if s.midx = true ∧ r = some Config.SYNC1 then
      (seekPoll r s).st = if s.chain = true then .readingHeader else .synced
    else if s.att = 0 then (seekPoll r s).st = .failed ∧ (seekPoll r s).err = .syncTimeout
    else (seekPoll r s).st = .seekingSync := by
  cases r with
  | none =>
    rw [if_neg (by simp), seekPoll_empty]
    exact orTimeout_row hs
  | some b =>
    by_cases hb : b = Config.expectedSync s.midx
    · cases hm : s.midx with
      | false =>
        rw [hm] at hb
        obtain rfl : b = Config.SYNC0 := hb
        rw [if_neg (by simp), seekPoll_first hm]
        exact orTimeout_row (s := firstMatched s) hs
      | true =>
        rw [hm] at hb
        obtain rfl : b = Config.SYNC1 := hb
        rw [if_pos ⟨rfl, rfl⟩, seekPoll_found hm]
        exact syncFound_st s
    · have hno : ¬(s.midx = true ∧ some b = some Config.SYNC1) := by
        rintro ⟨hm, hr⟩
        cases hr
        exact hb (by rw [hm]; rfl)
      rw [if_neg hno, seekPoll_mismatch hb]
      exact orTimeout_row (s := clearMidx s) hs

theorem headerPoll_row {r : Option Byte} {s t : State} (hs : s.st = .readingHeader) (h : headerPoll r s = .next t) :
    if r ≠ none ∧ s.cnt = 1 then t.st = .readingLength
    else if s.att = 0 then t.st = .failed ∧ t.err = .readTimeout else t.st = .readingHeader := by
  cases r with
  | none => cases h; rw [if_neg (by simp)]; exact orTimeout_row hs
  | some b =>
    simp only [headerPoll] at h
    split at h
    · next hc => cases h; rw [if_neg (by simp [hc])]; exact orTimeout_row (s := classStored b s) hs
    · split at h
      · next hc => cases h; rw [if_pos ⟨by simp, hc⟩]; rfl
      · cases h

theorem afterLength_row (len : Half) : afterLength len = if len ≠ 0 then .readingPayload else .readingChecksum := by
  rw [afterLength, ite_not]

theorem lengthPoll_row {r : Option Byte} {s t : State} (hs : s.st = .readingLength) (h : lengthPoll r s = .next t) :
    if r ≠ none ∧ s.cnt = 1 then t.st = if t.len ≠ 0 then .readingPayload else .readingChecksum
    else if s.att = 0 then t.st = .failed ∧ t.err = .readTimeout else t.st = .readingLength := by
  cases r with
  | none => cases h; rw [if_neg (by simp)]; exact orTimeout_row hs
  | some b =>
    simp only [lengthPoll] at h
    split at h
    · next hc => cases h; rw [if_neg (by simp [hc])]; exact orTimeout_row (s := lengthLowStored b s) hs
    · split at h
      · next hc => cases h; rw [if_pos ⟨by simp, hc⟩]; exact afterLength_row _
      · cases h

theorem payloadPoll_row {r : Option Byte} {s t : State} (hs : s.st = .readingPayload) (h : payloadPoll r s = .next t) :
    if r ≠ none ∧ s.cnt.toNat + 1 = s.len.toNat then t.st = .readingChecksum
    else if s.att = 0 then t.st = .failed ∧ t.err = .readTimeout else t.st = .readingPayload := by
  cases r with
  | none => cases h; rw [if_neg (by simp)]; exact orTimeout_row hs
  | some b =>
    simp only [payloadPoll] at h
    split at h
    · next u hu =>
      obtain ⟨_, rfl⟩ := memWrite_next hu
      cases h
      by_cases hc : s.cnt.toNat + 1 = s.len.toNat
      · rw [if_pos ⟨by simp, hc⟩, payloadStored_last (s := storeCell s.cnt.toNat b s) hc]
        rfl
      · rw [if_neg fun ⟨_, hlast⟩ => hc hlast, payloadStored_more (s := storeCell s.cnt.toNat b s) hc]
        exact orTimeout_row (s := setCnt (s.cnt + 1) (ckUpdate b (storeCell s.cnt.toNat b s))) hs
    · cases h
    · cases h

theorem checksumPoll_row {r : Option Byte} {s t : State} (hs : s.st = .readingChecksum)
    (h : checksumPoll r s = .next t) :
    if r ≠ none ∧ s.cnt = 1 then
      if s.rxA = s.ckA ∧ r = some s.ckB then t.st = .done else t.st = .failed ∧ t.err = .checksumMismatch
    else if s.att = 0 then t.st = .failed ∧ t.err = .readTimeout else t.st = .readingChecksum := by
  cases r with
  | none => cases h; rw [if_neg (by simp)]; exact orTimeout_row hs
  | some b =>
    simp only [checksumPoll] at h
    split at h
    · next hc => cases h; rw [if_neg (by simp [hc])]; exact orTimeout_row (s := rxAStored b s) hs
    · split at h
      · next hc =>
        cases h
        rw [if_pos ⟨by simp, hc⟩]
        split
        · next hv => rw [validate_valid (s := rxBStored b s) ⟨hv.1, Option.some.inj hv.2⟩]; rfl
        · next hv =>
          rw [validate_invalid (s := rxBStored b s) fun ⟨hA, hB⟩ => hv ⟨hA, congrArg some hB⟩]
          exact ⟨rfl, rfl⟩
      · cases h

/-! ## The rows of the commands -/

theorem CommandEffect.row {c : BitVec 2} {s t : State} (h : CommandEffect c s t) :
    (decodeCommand c = .none → t.st = s.st) ∧
    (decodeCommand c = .sync ∨ decodeCommand c = .recv → t.st = .seekingSync) ∧
    (s.st = .synced → decodeCommand c = .read → t.st = .readingHeader) ∧
    (s.st ≠ .synced → decodeCommand c = .read → t.st = .failed ∧ t.err = .notSynced) := by
  cases h with
  | none hc => simp [hc, decodeCommand]
  | sync hc => simp [hc, decodeCommand]
  | readBegins hc hs => simp [hc, decodeCommand, hs]
  | readFails hc hs => simp [hc, decodeCommand, hs]
  | recv hc => simp [hc, decodeCommand]

/-- Settles O43: a reset step gives `IDLE`, a command at rest its row, and a poll the row of its state; the rows of the
states that the step does not start in say nothing. -/
theorem transitionsAreTheTable : Obligations.TransitionsAreTheTable := by
  intro s t rst c a h hh hstep
  cases step_drive_effect hh hstep with
  | reset hr ht => exact ⟨fun _ => ht ▸ rfl, fun hr' => by simp [hr] at hr'⟩
  | command hr hb he =>
    have hrest : s.busy = false := hb
    have other {p : St} (hp : p.busy = true) (hs : s.st = p) : False := by
      rw [State.busy, hs, hp] at hrest
      cases hrest
    obtain ⟨hnone, hsearch, hread, hfails⟩ := he.row
    exact ⟨fun hr' => by simp [hr] at hr', fun _ => ⟨fun _ => hnone, fun _ => hsearch, hread, fun _ => hfails,
      fun hs => (other rfl hs).elim, fun hs => (other rfl hs).elim, fun hs => (other rfl hs).elim,
      fun hs => (other rfl hs).elim, fun hs => (other rfl hs).elim⟩⟩
  | poll hr hb hp =>
    have hbusy : ¬s.busy = false := by simpa using hb
    have hsynced : s.st ≠ .synced := fun hs => hbusy (by rw [State.busy, hs]; rfl)
    have heq := hp.busyStep_eq
    refine ⟨fun hr' => by simp [hr] at hr', fun _ => ⟨fun hb' => absurd hb' hbusy, fun hb' => absurd hb' hbusy,
      fun hs => absurd hs hsynced, fun hb' => absurd hb' hbusy, fun hs => ?_, fun hs => ?_, fun hs => ?_, fun hs => ?_,
      fun hs => ?_⟩⟩
    · rw [busyStep_seekingSync (s := s.popHost) hs] at heq
      cases heq
      exact seekPoll_row (s := polled s.popHost) hs
    · rw [busyStep_readingHeader (s := s.popHost) hs] at heq
      exact headerPoll_row (s := polled s.popHost) hs heq
    · rw [busyStep_readingLength (s := s.popHost) hs] at heq
      exact lengthPoll_row (s := polled s.popHost) hs heq
    · rw [busyStep_readingPayload (s := s.popHost) hs] at heq
      exact payloadPoll_row (s := polled s.popHost) hs heq
    · rw [busyStep_readingChecksum (s := s.popHost) hs] at heq
      exact checksumPoll_row (s := polled s.popHost) hs heq

end Sys2Proof.Machine.Laws
end

section
/-! PROOF. Every operation comes to rest (41_step_commands.md R152): a poll that does not end the operation spends an
attempt of its phase or begins a later phase. -/

namespace Sys2Proof.Machine.Laws

/-! ## The progress of a poll -/

/-- The phases that may follow the one a state is in (41_step_commands.md R152). -/
def phasesAfter (p : St) : Nat :=
  match p with
  | .seekingSync => 4
  | .readingHeader => 3
  | .readingLength => 2
  | .readingPayload => 1
  | _ => 0

/-- Items 5 and 6 of 10_state.md R36, on which the rules of the read phases rely. -/
structure CntFits (s : State) : Prop where
  pair_cnt : s.st = .readingHeader ∨ s.st = .readingLength ∨ s.st = .readingChecksum → s.cnt = 0 ∨ s.cnt = 1
  payload_cnt : s.st = .readingPayload → s.cnt.toNat < s.len.toNat

theorem cntFits_of_pair {s : State} (hc : s.cnt = 0 ∨ s.cnt = 1) (hs : s.st ≠ .readingPayload) : CntFits s :=
  ⟨fun _ => hc, fun h => absurd h hs⟩

/-- A poll ends the operation, or it leaves the phase with one attempt less, or it begins a later phase with a fresh
budget. -/
inductive PollProgress (s t : State) : Prop where
  | rests (hb : t.busy = false)
  | stays (hst : t.st = s.st) (hatt : t.att = s.att - 1) (hpos : t.att ≠ 0) (hc : CntFits t)
  | advances (hst : phasesAfter t.st < phasesAfter s.st) (hatt : t.att = s.budget) (hc : CntFits t)

theorem progress_orTimeout {k : Err} {s t : State} (hst : t.st = s.st) (hatt : t.att = s.att - 1) (hc : CntFits t) :
    PollProgress s (orTimeout k t) := by
  rcases orTimeout_cases k t with ⟨_, h⟩ | ⟨hpos, h⟩
  · rw [h]; exact .rests (busy_fail k t)
  · rw [h]; exact .stays hst hatt hpos hc

/-- The phase that follows the length begins with its counter in range: a payload phase has a payload
(43_read_frame.md R185). -/
theorem progress_lengthStored {s : State} (hs : s.st = .readingLength) (len : Half) (b : Byte) :
    PollProgress s (lengthStored len b (polled s)) := by
  by_cases hl : len = 0
  · have hst : (lengthStored len b (polled s)).st = .readingChecksum := if_pos hl
    exact .advances (by rw [hst, hs]; decide) rfl (cntFits_of_pair (.inl rfl) (by rw [hst]; decide))
  · have hst : (lengthStored len b (polled s)).st = .readingPayload := if_neg hl
    have hpos : 0 < len.toNat := by bv_omega
    exact .advances (by rw [hst, hs]; decide) rfl ⟨fun _ => .inl rfl, fun _ => hpos⟩

theorem PollEffect.progress {s t : State} (h : PollEffect s t) (hc : CntFits s) : PollProgress s t := by
  have pair {p : St} (hs : s.st = p) (hp : p ≠ .readingPayload) : s.st ≠ .readingPayload := hs ▸ hp
  cases h with
  | searchEmpty => exact progress_orTimeout rfl rfl ⟨hc.pair_cnt, hc.payload_cnt⟩
  | searchFirst => exact progress_orTimeout rfl rfl ⟨hc.pair_cnt, hc.payload_cnt⟩
  | searchMismatch => exact progress_orTimeout rfl rfl ⟨hc.pair_cnt, hc.payload_cnt⟩
  | readEmpty => exact progress_orTimeout rfl rfl ⟨hc.pair_cnt, hc.payload_cnt⟩
  | searchSynced => exact .rests rfl
  | searchChained hs =>
    exact .advances (by simp [hs, phasesAfter]) rfl (cntFits_of_pair (.inl rfl) (by simp))
  | headerClass b hs => exact progress_orTimeout rfl rfl (cntFits_of_pair (.inr rfl) (pair hs (by decide)))
  | headerId b hs => exact .advances (by simp [hs, phasesAfter]) rfl (cntFits_of_pair (.inl rfl) (by simp))
  | lengthLow b hs => exact progress_orTimeout rfl rfl (cntFits_of_pair (.inr rfl) (pair hs (by decide)))
  | lengthHigh b hs => exact progress_lengthStored hs _ b
  | payloadLast b hs => exact .advances (by simp [hs, phasesAfter]) rfl (cntFits_of_pair (.inl rfl) (by simp))
  | payloadMore b hs hr ha hlast =>
    have hlt := hc.payload_cnt hs
    refine progress_orTimeout rfl rfl ⟨fun h => ?_, fun _ => ?_⟩
    · simp [hs] at h
    · show (s.cnt + 1).toNat < s.len.toNat
      bv_omega
  | checksumFirst b hs => exact progress_orTimeout rfl rfl (cntFits_of_pair (.inr rfl) (pair hs (by decide)))
  | checksumValid => exact .rests rfl
  | checksumInvalid => exact .rests rfl

/-! ## A busy state has a next state -/

theorem exists_pollEffect {s : State} (hb : s.busy = true) (hc : CntFits s) : ∃ t, PollEffect s t := by
  suffices h : ∃ t, busyStep s = .next t from h.imp fun _ => busyStep_effect hb
  cases hs : s.st with
  | seekingSync => exact ⟨_, busyStep_seekingSync hs⟩
  | readingHeader =>
    rw [busyStep_readingHeader hs]
    cases s.response with
    | none => exact ⟨_, rfl⟩
    | some b =>
      rcases hc.pair_cnt (.inl hs) with h0 | h1
      · exact ⟨_, headerPoll_class (s := polled s) h0 b⟩
      · exact ⟨_, headerPoll_id (s := polled s) h1 b⟩
  | readingLength =>
    rw [busyStep_readingLength hs]
    cases s.response with
    | none => exact ⟨_, rfl⟩
    | some b =>
      rcases hc.pair_cnt (.inr (.inl hs)) with h0 | h1
      · exact ⟨_, lengthPoll_low (s := polled s) h0 b⟩
      · exact ⟨_, lengthPoll_high (s := polled s) h1 b⟩
  | readingPayload =>
    rw [busyStep_readingPayload hs]
    cases s.response with
    | none => exact ⟨_, rfl⟩
    | some b => exact ⟨_, payloadPoll_byte (s := polled s) (cnt_lt_PBUF_SIZE (hc.payload_cnt hs)) b⟩
  | readingChecksum =>
    rw [busyStep_readingChecksum hs]
    cases s.response with
    | none => exact ⟨_, rfl⟩
    | some b =>
      rcases hc.pair_cnt (.inr (.inr hs)) with h0 | h1
      · exact ⟨_, checksumPoll_first (s := polled s) h0 b⟩
      · exact ⟨_, checksumPoll_second (s := polled s) h1 b⟩
  | _ => simp [State.busy, St.busy, hs] at hb

/-! ## The polls left -/

/-- What waiting for rest needs of the invariants (10_state.md R36 items 2, 5 and 6): nothing of the payload buffer and
of the checksum. -/
structure InPhase (s : State) : Prop where
  budget_pos : 1 ≤ s.budget
  att_pos : s.busy = true → 1 ≤ s.att
  cnt_fits : CntFits s

theorem inPhase_of_inv {s : State} (h : Inv s) : InPhase s :=
  ⟨h.budget_pos, fun hb => (h.att_range hb).1, ⟨h.pair_cnt, h.payload_cnt⟩⟩

/-- The polls an operation may still make, its phases' budgets taken together (41_step_commands.md R152). -/
def pollsLeft (s : State) : Nat := if s.busy then s.att + phasesAfter s.st * s.budget else 0

theorem pollsLeft_busy {s : State} (hb : s.busy = true) : pollsLeft s = s.att + phasesAfter s.st * s.budget :=
  if_pos hb

theorem pollsLeft_le (s : State) : pollsLeft s ≤ s.att + 4 * s.budget := by
  have hphases : phasesAfter s.st ≤ 4 := by cases s.st <;> decide
  have := Nat.mul_le_mul_right s.budget hphases
  unfold pollsLeft
  split <;> omega

theorem pollsLeft_le_pollBound (s : State) : pollsLeft s ≤ pollBound s :=
  Nat.le_succ_of_le (pollsLeft_le s)

theorem PollEffect.inPhase {s t : State} (h : PollEffect s t) (hi : InPhase s) : InPhase t := by
  obtain ⟨_, hbudget, _⟩ := h.keeps
  have hbud : 1 ≤ t.budget := hbudget ▸ hi.budget_pos
  cases h.progress hi.cnt_fits with
  | rests hb =>
    have hidle {p : St} (hp : p.busy = true) : t.st ≠ p := by
      rintro rfl
      exact absurd hp (by simpa [State.busy] using hb)
    refine ⟨hbud, fun hb' => by simp [hb] at hb', ⟨fun h => ?_, fun h => absurd h (hidle rfl)⟩⟩
    rcases h with h | h | h
    all_goals exact absurd h (hidle rfl)
  | stays _ _ hpos hc => exact ⟨hbud, fun _ => Nat.pos_of_ne_zero hpos, hc⟩
  | advances _ hatt hc => exact ⟨hbud, fun _ => hatt ▸ hi.budget_pos, hc⟩

/-- Each poll leaves fewer: its own attempt is spent, or a whole phase is behind it. -/
theorem PollEffect.pollsLeft_lt {s t : State} (h : PollEffect s t) (hi : InPhase s) : pollsLeft t < pollsLeft s := by
  obtain ⟨_, hbudget, _⟩ := h.keeps
  have hatt_pos := hi.att_pos h.busy
  rw [pollsLeft_busy h.busy]
  cases h.progress hi.cnt_fits with
  | rests hb =>
    rw [pollsLeft, if_neg (by simp [hb])]
    omega
  | stays hst hatt hpos =>
    rw [pollsLeft, hst, hatt, hbudget]
    split <;> omega
  | advances hst hatt =>
    have hphase := Nat.mul_le_mul_right s.budget (Nat.succ_le_of_lt hst)
    rw [Nat.succ_mul] at hphase
    rw [pollsLeft, hatt, hbudget]
    split <;> omega

/-! ## The polls to rest, without a bound -/

/-- The polls of a state end in this state at rest. -/
inductive ComesToRest : State → State → Prop where
  | rest {s : State} (hb : s.busy = false) : ComesToRest s s
  | poll {s u t : State} (hp : PollEffect s u) (ht : ComesToRest u t) : ComesToRest s t

theorem ComesToRest.busy_eq_false {s t : State} (h : ComesToRest s t) : t.busy = false := by
  induction h with
  | rest hb => exact hb
  | poll _ _ ih => exact ih

theorem exists_comesToRest {s : State} (hi : InPhase s) : ∃ t, ComesToRest s t := by
  induction hn : pollsLeft s using Nat.strong_induction_on generalizing s with
  | _ n ih =>
    subst hn
    cases hb : s.busy with
    | false => exact ⟨s, .rest hb⟩
    | true =>
      obtain ⟨u, hu⟩ := exists_pollEffect hb hi.cnt_fits
      obtain ⟨t, ht⟩ := ih _ (hu.pollsLeft_lt hi) (hu.inPhase hi) rfl
      exact ⟨t, .poll hu ht⟩

/-- Enough polls are made, and those after them change nothing. -/
theorem ComesToRest.awaitRestWithin_eq {s t : State} (h : ComesToRest s t) (hi : InPhase s) {n : Nat}
    (hn : pollsLeft s ≤ n) : awaitRestWithin n s = .next t := by
  induction h generalizing n with
  | rest hb => exact awaitRestWithin_rest hb n
  | poll hp _ ih =>
    have hlt := hp.pollsLeft_lt hi
    obtain ⟨m, rfl⟩ : ∃ m, n = m + 1 := ⟨n - 1, by omega⟩
    rw [awaitRestWithin_poll hp]
    exact ih (hp.inPhase hi) (by omega)

theorem ComesToRest.awaitRest_eq {s t : State} (h : ComesToRest s t) (hi : InPhase s) : awaitRest s = .next t :=
  h.awaitRestWithin_eq hi (pollsLeft_le_pollBound s)

/-- Settles O42: `pollsLeft` polls bring the block to rest. -/
theorem everyOperationComesToRest : Obligations.EveryOperationComesToRest := by
  intro s hinv
  have hi := inPhase_of_inv hinv
  obtain ⟨t, ht⟩ := exists_comesToRest hi
  exact ⟨pollsLeft s, t, pollsLeft_le s, ht.awaitRestWithin_eq hi le_rfl, ht.busy_eq_false,
    ht.awaitRest_eq hi⟩

end Sys2Proof.Machine.Laws
end

section
/-! PROOF. `RECV` is `SYNC` and then `READ` (41_step_commands.md R146): up to the marker the two searches make the same
polls, and after it `RECV` is in the frame read that an accepted `READ` begins. -/

namespace Sys2Proof.Machine.Laws

/-! ## The chain flag decides at the marker only -/

/-- The same state with this chain flag. -/
def withChain (c : Bool) (s : State) : State := { s with chain := c }

theorem orTimeout_withChain (k : Err) (c : Bool) (s : State) :
    orTimeout k (withChain c s) = withChain c (orTimeout k s) := by
  rcases orTimeout_cases k s with ⟨ha, hs⟩ | ⟨ha, hs⟩
  · rw [hs]; exact if_pos ha
  · rw [hs]; exact if_neg ha

/-- The coming poll takes the second byte of a marker (42_sync.md R163). -/
def findsMarker (s : State) : Prop := s.st = .seekingSync ∧ s.midx = true ∧ s.response = some Config.SYNC1

/-- Every rule but that of the second marker byte applies whatever the chain flag is. -/
theorem PollEffect.chain_irrelevant {s t : State} (hp : PollEffect s t) (hn : ¬findsMarker s) (c : Bool) :
    PollEffect (withChain c s) (withChain c t) := by
  cases hp with
  | searchSynced hs hm hr => exact absurd ⟨hs, hm, hr⟩ hn
  | searchChained hs hm hr => exact absurd ⟨hs, hm, hr⟩ hn
  | searchEmpty hs hr => rw [← orTimeout_withChain]; exact .searchEmpty hs hr
  | searchFirst hs hm hr => rw [← orTimeout_withChain]; exact .searchFirst hs hm hr
  | searchMismatch b hs hr hb => rw [← orTimeout_withChain]; exact .searchMismatch b hs hr hb
  | readEmpty hs hr => rw [← orTimeout_withChain]; exact .readEmpty hs hr
  | headerClass b hs hr hc => rw [← orTimeout_withChain]; exact .headerClass b hs hr hc
  | headerId b hs hr hc => exact .headerId b hs hr hc
  | lengthLow b hs hr hc => rw [← orTimeout_withChain]; exact .lengthLow b hs hr hc
  | lengthHigh b hs hr hc => exact .lengthHigh b hs hr hc
  | payloadLast b hs hr ha hc => exact .payloadLast b hs hr ha hc
  | payloadMore b hs hr ha hc => rw [← orTimeout_withChain]; exact .payloadMore b hs hr ha hc
  | checksumFirst b hs hr hc => rw [← orTimeout_withChain]; exact .checksumFirst b hs hr hc
  | checksumValid b hs hr hc hA hB => exact .checksumValid b hs hr hc hA hB
  | checksumInvalid b hs hr hc hAB => exact .checksumInvalid b hs hr hc hAB

/-! ## The frame read -/

/-- No poll begins a search. -/
theorem PollEffect.search_of_search {s t : State} (h : PollEffect s t) (hi : InPhase s) (ht : t.st = .seekingSync) :
    s.st = .seekingSync := by
  cases h.progress hi.cnt_fits with
  | rests hb => simp [State.busy, St.busy, ht] at hb
  | stays hst => exact hst ▸ ht
  | advances hst =>
    rw [ht] at hst
    have : phasesAfter s.st ≤ phasesAfter .seekingSync := by cases s.st <;> decide
    omega

/-- A frame read makes the same polls with either chain flag. -/
theorem ComesToRest.withChain_of_read {s t : State} (h : ComesToRest s t) (hi : InPhase s) (hs : s.st ≠ .seekingSync)
    (c : Bool) : ComesToRest (withChain c s) (withChain c t) := by
  induction h with
  | rest hb => exact .rest hb
  | poll hp _ ih =>
    exact .poll (hp.chain_irrelevant (fun hf => hs hf.1) c)
      (ih (hp.inPhase hi) fun hu => hs (hp.search_of_search hi hu))

/-! ## The search -/

theorem ComesToRest.eq_of_rest {s t : State} (h : ComesToRest s t) (hb : s.busy = false) : t = s := by
  cases h with
  | rest => rfl
  | poll hp => simp [hp.busy] at hb

/-- A search that does not find the marker goes on or fails (42_sync.md R161, R162, R164, R165). -/
theorem PollEffect.search_goes_on {s t : State} (h : PollEffect s t) (hs : s.st = .seekingSync) (hn : ¬findsMarker s) :
    t.st = .seekingSync ∨ t.st = .failed := by
  have heq := h.busyStep_eq
  rw [busyStep_seekingSync hs] at heq
  cases heq
  have hrow := seekPoll_row (r := s.response) (s := polled s) hs
  rw [if_neg fun ⟨hm, hr⟩ => hn ⟨hs, hm, hr⟩] at hrow
  split at hrow
  · exact .inr hrow.1
  · exact .inl hrow

/-- Where an unchained search finds the marker. -/
theorem PollEffect.unchained_found {s t : State} (h : PollEffect s t) (hf : findsMarker s) (hc : s.chain = false) :
    t = restSynced (clearMidx (polled s)) := by
  obtain ⟨hs, hm, hr⟩ := hf
  have heq := h.busyStep_eq
  rw [busyStep_seekingSync hs, hr, seekPoll_found (s := polled s) hm, syncFound_synced (s := polled s) hc] at heq
  cases heq
  rfl

/-- The chained search begins, at the marker, the frame read that `READ` begins after the unchained one
(41_step_commands.md R144, R147). -/
theorem chained_found {s : State} (hf : findsMarker s) (he : s.err = .none) :
    PollEffect (withChain true s) (withChain true (acceptRead (restSynced (clearMidx (polled s))))) := by
  obtain ⟨hs, hm, hr⟩ := hf
  have hread : withChain true (acceptRead (restSynced (clearMidx (polled s)))) =
      beginRead (clearMidx (polled (withChain true s))) := by
    rw [acceptRead_synced rfl]
    cases s
    cases he
    rfl
  rw [hread]
  exact .searchChained hs hm hr rfl

theorem inPhase_startSearch {s : State} (hb : 1 ≤ s.budget) (c : Bool) : InPhase (startSearch c s) :=
  ⟨hb, fun _ => hb, cntFits_of_pair (.inl rfl) (by simp)⟩

theorem inPhase_beginRead {s : State} (hb : 1 ≤ s.budget) : InPhase (beginRead s) :=
  ⟨hb, fun _ => hb, cntFits_of_pair (.inl rfl) (by simp)⟩

/-- Where an unchained search ends, and what the chained one does from the same state: the frame read of an accepted
`READ`, or the same failure. -/
theorem ComesToRest.chained_search {s w : State} (h : ComesToRest s w) (hbud : 1 ≤ s.budget)
    (hs : s.st = .seekingSync) (hc : s.chain = false) (he : s.err = .none) :
    (w.st = .synced ∧ ∀ y, ComesToRest (acceptRead w) y → ComesToRest (withChain true s) (withChain true y)) ∨
      (w.st ≠ .synced ∧ ComesToRest (withChain true s) (withChain true w)) := by
  induction h with
  | rest hb => simp [State.busy, St.busy, hs] at hb
  | @poll s u w hp hw ih =>
    by_cases hf : findsMarker s
    · obtain rfl := hp.unchained_found hf hc
      obtain rfl := hw.eq_of_rest rfl
      refine .inl ⟨rfl, fun y hy => .poll (chained_found hf he) ?_⟩
      rw [acceptRead_synced rfl] at hy ⊢
      exact hy.withChain_of_read (inPhase_beginRead hbud) (by simp) true
    · have hpoll := hp.chain_irrelevant hf true
      obtain ⟨hchain, hbudget, _⟩ := hp.keeps
      rcases hp.search_goes_on hs hf with hu | hu
      · have herr : u.err = .none := by
          by_contra hne
          have := hp.err_writer (he ▸ hne)
          simp [hu] at this
        rcases ih (hbudget ▸ hbud) hu (hchain.trans hc) herr with ⟨hsynced, hread⟩ | ⟨hfailed, hend⟩
        · exact .inl ⟨hsynced, fun y hy => .poll hpoll (hread y hy)⟩
        · exact .inr ⟨hfailed, .poll hpoll hend⟩
      · have hrest : u.busy = false := by rw [State.busy, hu]; rfl
        obtain rfl := hw.eq_of_rest hrest
        exact .inr ⟨by simp [hu], .poll hpoll (.rest hrest)⟩

/-- Settles O37: the chained search from the state in which `SYNC` starts the unchained one. -/
theorem recvIsSyncThenRead : Obligations.RecvIsSyncThenRead := by
  intro s hbud hb
  have hi := inPhase_startSearch hbud
  obtain ⟨w, hw⟩ := exists_comesToRest (hi false)
  have hsync := hw.awaitRest_eq (hi false)
  obtain ⟨_, hbudget, _⟩ := awaitRestWithin_keeps hsync
  have recv {t : State} (ht : ComesToRest (withChain true (startSearch false s)) t) :
      awaitRest (startSearch true s) = .next t := ht.awaitRest_eq (hi true)
  rcases hw.chained_search hbud rfl rfl rfl with ⟨hsynced, hread⟩ | ⟨hfailed, hend⟩
  · have hx : InPhase (acceptRead w) := by
      rw [acceptRead_synced hsynced]
      exact inPhase_beginRead (hbudget.trans_ge hbud)
    obtain ⟨y, hy⟩ := exists_comesToRest hx
    refine ⟨_, _, _, w, exec_command_rest rfl hb, recv (hread y hy), exec_command_rest rfl hb, hsync, ?_⟩
    rw [if_pos hsynced]
    exact ⟨_, y, exec_command_rest rfl hw.busy_eq_false, hy.awaitRest_eq hx, rfl⟩
  · refine ⟨_, _, _, w, exec_command_rest rfl hb, recv hend, exec_command_rest rfl hb, hsync, ?_⟩
    rw [if_neg hfailed]
    rfl

end Sys2Proof.Machine.Laws
end

section
/-! PROOF. The sync search (42_sync.md): its polls one by one, and the whole search as the function `syncToFrame`. -/

namespace Sys2Proof.Machine.Laws

/-! ## One poll of the search -/

/-- A poll with the response it consumes made explicit (42_sync.md R160). -/
theorem polled_of_chan {s : State} {r : Option Byte} {rest : List (Option Byte)} (h : s.chan = r :: rest) :
    polled s = { s with chan := rest, att := s.att - 1 } := by
  simp [polled, charge, State.popChan, h]

/-- A byte row whose byte is the response is the poll of that byte. -/
theorem exec_byteRow_poll {i : Instr} {m : Bool} {b : Byte} {s t : State} (hw : wellFormed (.marker m) i = true)
    (henc : encode i = [b]) (hr : s.response = some b) (hp : PollEffect s t) : exec i s = .next t := by
  rw [exec_byteRow hw, henc, offer_of_response hr, atRest_busy hp.busy, hp.busyStep_eq]

/-- Settles O22: the rule of the empty poll. -/
theorem emptyPollKeepsTheMatch : Obligations.EmptyPollKeepsTheMatch := by
  intro s hs hr
  have hp := PollEffect.searchEmpty hs hr
  rw [exec_command_busy rfl hp.busy, hp.busyStep_eq]
  rfl

/-- Settles O23: the rule of the first marker byte. -/
theorem firstMarkerByteAdvances : Obligations.FirstMarkerByteAdvances := by
  intro s rest hs hm hchan
  have hr := response_cons hchan
  rw [exec_byteRow_poll (m := false) rfl rfl hr (.searchFirst hs hm hr), polled_of_chan hchan]
  rfl

/-- Settles O24: the rule of the second marker byte, for either chain flag. -/
theorem secondMarkerByteFindsTheFrame : Obligations.SecondMarkerByteFindsTheFrame := by
  intro s rest hs hm hchan
  have hr := response_cons hchan
  cases hc : s.chain with
  | true =>
    rw [exec_byteRow_poll (m := true) rfl rfl hr (.searchChained hs hm hr hc), polled_of_chan hchan]
    simp [beginRead, clearMidx, hc]
  | false =>
    rw [exec_byteRow_poll (m := true) rfl rfl hr (.searchSynced hs hm hr hc), polled_of_chan hchan]
    simp [restSynced, clearMidx, hc]

/-- Settles O25: the rule of the mismatch, whichever byte was expected. -/
theorem mismatchDiscardsTheByte : Obligations.MismatchDiscardsTheByte := by
  intro s b rest hs hchan hmismatch
  have hr := response_cons hchan
  have hb : b ≠ Config.expectedSync s.midx := by
    rcases hmismatch with ⟨hm, hb⟩ | ⟨hm, hb⟩
    all_goals rw [hm]; exact hb
  have hw : wellFormed (.marker s.midx) (.syncMismatch b) = true := by simpa [wellFormed] using hb
  rw [exec_byteRow_poll hw rfl hr (.searchMismatch b hs hr hb), polled_of_chan hchan]
  rfl

/-! ## `syncToFrame`, poll by poll -/

theorem nextPoll_chan (s : State) : nextPoll s.chan = (s.response, s.chan.tail) := by
  cases hc : s.chan <;> simp [nextPoll, State.response, hc]

section
variable {n : Nat} {m : Bool} {b : Byte} {chan rest : List (Option Byte)}

theorem syncToFrame_empty (h : nextPoll chan = (none, rest)) :
    syncToFrame (n + 1) m chan = syncToFrame n m rest := by
  simp [syncToFrame, h]

theorem syncToFrame_first (h : nextPoll chan = (some Config.SYNC0, rest)) :
    syncToFrame (n + 1) false chan = syncToFrame n true rest := by
  simp [syncToFrame, h, Config.expectedSync]

theorem syncToFrame_second (h : nextPoll chan = (some Config.SYNC1, rest)) :
    syncToFrame (n + 1) true chan = (true, rest) := by
  simp [syncToFrame, h, Config.expectedSync]

theorem syncToFrame_mismatch (h : nextPoll chan = (some b, rest)) (hb : b ≠ Config.expectedSync m) :
    syncToFrame (n + 1) m chan = syncToFrame n false rest := by
  simp [syncToFrame, h, hb]

end

/-- Two bytes `B5` at `midx = 0` are a match and a mismatch (42_sync.md R164, R168). -/
theorem syncToFrame_two_first (n : Nat) (chan : List (Option Byte)) :
    syncToFrame (n + 2) false (some Config.SYNC0 :: some Config.SYNC0 :: chan) = syncToFrame n false chan :=
  (syncToFrame_first rfl).trans (syncToFrame_mismatch rfl (by decide))

/-- Settles O27: the run is taken two bytes at a time, down to none or one. -/
theorem markerAfterARunIsFoundIffOdd : Obligations.MarkerAfterARunIsFoundIffOdd := by
  intro n k rest hk
  induction k using Nat.twoStepInduction generalizing n with
  | zero =>
    obtain ⟨n, rfl⟩ := Nat.exists_eq_add_of_lt hk
    simpa using syncToFrame_mismatch (m := false) rfl (by decide)
  | one =>
    obtain ⟨n, rfl⟩ := Nat.exists_eq_add_of_le' hk
    exact (syncToFrame_first rfl).trans (syncToFrame_second rfl)
  | more k ih _ =>
    obtain ⟨n, rfl⟩ := Nat.exists_eq_add_of_le' (show 2 ≤ n by omega)
    have hpair := syncToFrame_two_first n (List.replicate k (some 0xB5) ++ some 0x62 :: rest)
    refine hpair.trans ?_
    rw [ih n (by omega), Nat.add_mod_right, Nat.add_right_comm, Nat.add_sub_add_right]

/-! ## The search computes `syncToFrame` -/

/-- A poll of the search is one round of `syncToFrame`: it finds the marker, or it goes on with the match index of that
round, unless its attempt was the last (42_sync.md R160 to R166). -/
theorem seekPoll_round {s : State} {n : Nat} (hn : s.att = n + 1) :
    (seekPoll s.response (polled s) = syncFound (polled s) ∧
        syncToFrame s.att s.midx s.chan = (true, s.chan.tail)) ∨
      ∃ m, seekPoll s.response (polled s) = orTimeout .syncTimeout { polled s with midx := m } ∧
        syncToFrame s.att s.midx s.chan = syncToFrame n m s.chan.tail := by
  have hpoll := nextPoll_chan s
  rw [hn]
  cases hr : s.response with
  | none =>
    rw [hr] at hpoll
    exact .inr ⟨s.midx, rfl, syncToFrame_empty hpoll⟩
  | some b =>
    rw [hr] at hpoll
    by_cases hb : b = Config.expectedSync s.midx
    · subst hb
      cases hm : s.midx with
      | false =>
        rw [hm] at hpoll
        exact .inr ⟨true, seekPoll_first (s := polled s) hm, syncToFrame_first hpoll⟩
      | true =>
        rw [hm] at hpoll
        exact .inl ⟨seekPoll_found (s := polled s) hm, syncToFrame_second hpoll⟩
    · exact .inr ⟨false, seekPoll_mismatch (s := polled s) hb, syncToFrame_mismatch hpoll hb⟩

/-- The search of `s` ends in `t` as `syncToFrame` says, and nothing but its own registers has changed
(42_sync.md R163, R165, R167). -/
structure EndsAsSyncToFrame (s t : State) : Prop where
  chan_eq : t.chan = (syncToFrame s.att s.midx s.chan).2
  outcome : if (syncToFrame s.att s.midx s.chan).1 = true then t.st = .synced ∧ t.err = s.err
    else t.st = .failed ∧ t.err = .syncTimeout ∧ t.att = 0
  frame : t = { s with st := t.st, err := t.err, midx := t.midx, att := t.att, chan := t.chan }

theorem EndsAsSyncToFrame.endingOf_eq {s t : State} (h : EndsAsSyncToFrame s t) :
    endingOf t = some (if (syncToFrame s.att s.midx s.chan).1 = true then .synced else .failed .syncTimeout) := by
  have hout := h.outcome
  split at hout
  · next hfound =>
    obtain ⟨hst, _⟩ := hout
    rw [endingOf_synced hst, if_pos hfound]
  · next hfound =>
    obtain ⟨hst, herr, _⟩ := hout
    rw [endingOf_failed hst, herr, if_neg hfound]

/-- An unchained search that still has attempts ends as `syncToFrame` says. -/
theorem ComesToRest.endsAsSyncToFrame {s t : State} (h : ComesToRest s t) (hs : s.st = .seekingSync)
    (hc : s.chain = false) (ha : s.att ≠ 0) : EndsAsSyncToFrame s t := by
  induction h with
  | rest hb => simp [State.busy, St.busy, hs] at hb
  | @poll s u t hp ht ih =>
    obtain ⟨n, hn⟩ := Nat.exists_eq_succ_of_ne_zero ha
    have hu := hp.busyStep_eq
    rw [busyStep_seekingSync hs] at hu
    cases hu
    rcases seekPoll_round hn with ⟨hseek, hfun⟩ | ⟨m, hseek, hfun⟩
    · rw [hseek, syncFound_synced (s := polled s) hc] at ht
      obtain rfl := ht.eq_of_rest rfl
      exact { chan_eq := by rw [hfun]; rfl, outcome := by rw [hfun]; exact ⟨rfl, rfl⟩, frame := rfl }
    · have hatt : (polled s).att = n := by simp [hn]
      rw [hseek] at ht ih
      rcases orTimeout_cases .syncTimeout { polled s with midx := m } with ⟨hlast, heq⟩ | ⟨hmore, heq⟩
      · obtain rfl : n = 0 := hatt.symm.trans hlast
        rw [heq] at ht
        obtain rfl := ht.eq_of_rest rfl
        exact { chan_eq := by rw [hfun]; rfl, outcome := by rw [hfun]; exact ⟨rfl, rfl, hlast⟩, frame := rfl }
      · rw [heq] at ih
        have hends := ih hs hc hmore
        rw [← hatt] at hfun
        exact
          { chan_eq := by rw [hfun]; exact hends.chan_eq
            outcome := by rw [hfun]; exact hends.outcome
            frame := hends.frame }

/-- Settles O28: the search of `SYNC` has the whole budget and `midx = 0`. -/
theorem searchComputesSyncToFrame : Obligations.SearchComputesSyncToFrame := by
  intro s hbud hb
  have hi := inPhase_startSearch hbud false
  obtain ⟨t, ht⟩ := exists_comesToRest hi
  have hends := ht.endsAsSyncToFrame rfl rfl (Nat.ne_of_gt hbud)
  exact ⟨_, t, exec_command_rest rfl hb, ht.awaitRest_eq hi, hends.chan_eq, hends.outcome, hends.endingOf_eq,
    hends.frame⟩

end Sys2Proof.Machine.Laws
end

section
/-! PROOF. The frame read, poll by poll (43_read_frame.md R181 to R189): each rule as the exact effect of its step; and
the known messages, which are received as any frame is (R197). -/

namespace Sys2Proof.Machine.Laws

/-- In a busy state `NONE` is the poll (41_step_commands.md R148). -/
theorem exec_none_poll {s t : State} (hp : PollEffect s t) : exec .none s = .next t := by
  rw [exec_command_busy rfl hp.busy, hp.busyStep_eq]

/-- The statements' own words for the exhaustion test. -/
theorem orTimeout_eq_exhaustedOr (k : Err) (s : State) : orTimeout k s = exhaustedOr k s := rfl

theorem lowByte_toNat (v : Half) : (lowByte v).toNat = v.toNat % 256 := BitVec.toNat_setWidth 8 v

/-- The length field is determined by its two bytes (30_encoding.md R91). -/
theorem joinBytes_lowByte_eq {v l : Half} {hi : Byte} (h : l.toNat = v.toNat % 256 + 256 * hi.toNat) :
    joinBytes (lowByte v) hi = l := by
  apply BitVec.eq_of_toNat_eq
  rw [joinBytes_toNat, lowByte_toNat, h]

/-- Settles O31: the two rules of the payload byte, whose buffer differs from the old one in cell `cnt` alone. -/
theorem payloadByteIsStored : Obligations.PayloadByteIsStored := by
  intro s b rest hs hlt hchan
  have hr := response_cons hchan
  have haddr := cnt_lt_PBUF_SIZE hlt
  refine ⟨s.pbuf.write s.cnt.toNat b, fun k => read_write s.pbuf _ k b, fun hw => write_wf hw haddr b, ?_⟩
  split
  · next hlast =>
    rw [exec_none_poll (.payloadLast b hs hr haddr hlast), polled_of_chan hchan]
    rfl
  · next hmore =>
    rw [exec_none_poll (.payloadMore b hs hr haddr hmore), polled_of_chan hchan, orTimeout_eq_exhaustedOr]
    rfl

/-- Settles O29: the rules of the class byte and of the id byte. -/
theorem headerBytesAreStored : Obligations.HeaderBytesAreStored := by
  intro s b rest hs hchan
  have hr := response_cons hchan
  refine ⟨fun hc => ?_, fun hc => ?_⟩
  · rw [exec_none_poll (.headerClass b hs hr hc), polled_of_chan hchan, orTimeout_eq_exhaustedOr]
    rfl
  · rw [exec_none_poll (.headerId b hs hr hc), polled_of_chan hchan]
    rfl

/-- Settles O30: the rules of the low and of the high length byte; the assembled length is the one of its value. -/
theorem lengthBytesAreAssembled : Obligations.LengthBytesAreAssembled := by
  intro s b rest hs hchan
  have hr := response_cons hchan
  refine ⟨fun hc => ?_, fun hc l hl => ?_⟩
  · rw [exec_none_poll (.lengthLow b hs hr hc), polled_of_chan hchan, orTimeout_eq_exhaustedOr]
    rfl
  · rw [exec_none_poll (.lengthHigh b hs hr hc), polled_of_chan hchan, joinBytes_lowByte_eq hl]
    rfl

/-- Settles O32: the rule of the first checksum byte, and the two endings of the second. -/
theorem checksumBytesAreCompared : Obligations.ChecksumBytesAreCompared := by
  intro s b rest hs hchan
  have hr := response_cons hchan
  refine ⟨fun hc => ?_, fun hc => ?_⟩
  · rw [exec_none_poll (.checksumFirst b hs hr hc), polled_of_chan hchan, orTimeout_eq_exhaustedOr]
    rfl
  · split
    · next hv =>
      obtain ⟨hA, hB⟩ := hv
      rw [exec_none_poll (.checksumValid b hs hr hc hA hB), polled_of_chan hchan]
      rfl
    · next hv =>
      rw [exec_none_poll (.checksumInvalid b hs hr hc hv), polled_of_chan hchan]
      rfl

/-- Settles O33: the rule of the empty poll is the same in all four phases. -/
theorem emptyPollWaitsInARead : Obligations.EmptyPollWaitsInARead := by
  intro s hs hr
  have hreading : s.st.reading = true := by
    rcases hs with hs | hs | hs | hs
    all_goals rw [hs]; rfl
  exact exec_none_poll (.readEmpty hreading hr)

/-- Settles O40: the row of a known message has the class, id and length that it was chosen by. -/
theorem knownMessagesAreNotSpecial : Obligations.KnownMessagesAreNotSpecial := by
  intro c d l s
  rw [exec_frameRow (wellFormed_decodeHeader c d l), encode_decodeHeader]
  exact (exec_of_frameHeader rfl s).symm

end Sys2Proof.Machine.Laws
end

section
/-! PROOF. The timeouts of a frame read (43_read_frame.md R190, R191): a poll that does not deliver the last byte of its
phase leaves one attempt less, and fails where none is left. -/

namespace Sys2Proof.Machine.Laws

/-! ## The bytes a phase still needs -/

/-- The bytes the phase of a `READING_` state still needs (43_read_frame.md R180). -/
def missingBytes (s : State) : Nat :=
  if s.st = .readingPayload then s.len.toNat - s.cnt.toNat else 2 - s.cnt.toNat

theorem missingBytes_payload {s : State} (h : s.st = .readingPayload) :
    missingBytes s = s.len.toNat - s.cnt.toNat := if_pos h

theorem missingBytes_pair {s : State} (h : s.st ≠ .readingPayload) : missingBytes s = 2 - s.cnt.toNat := if_neg h

/-- The `READING_` states: the payload phase, and the three phases of two bytes. -/
theorem reading_cases {p : St} (h : p.reading = true) :
    p = .readingPayload ∨
      (p ≠ .readingPayload ∧ (p = .readingHeader ∨ p = .readingLength ∨ p = .readingChecksum)) := by
  cases p with
  | readingPayload => exact .inl rfl
  | readingHeader => exact .inr ⟨by decide, .inl rfl⟩
  | readingLength => exact .inr ⟨by decide, .inr (.inl rfl)⟩
  | readingChecksum => exact .inr ⟨by decide, .inr (.inr rfl)⟩
  | _ => cases h

/-- The counter of a phase in progress is below its number of bytes (10_state.md R36 items 5 and 6). -/
theorem missingBytes_ne_zero {s : State} (hc : CntFits s) (hs : s.st.reading = true) : missingBytes s ≠ 0 := by
  rcases reading_cases hs with hs | ⟨hpair, hs⟩
  · have := hc.payload_cnt hs
    rw [missingBytes_payload hs]
    omega
  · rw [missingBytes_pair hpair]
    rcases hc.pair_cnt hs with h | h
    all_goals simp [h]

/-- One byte is missing, in the words of the rules that complete a phase (43_read_frame.md R191). -/
theorem missingBytes_eq_one_iff {s : State} (hc : CntFits s) (hs : s.st.reading = true) :
    missingBytes s = 1 ↔
      (s.st = .readingPayload → s.cnt.toNat + 1 = s.len.toNat) ∧ (s.st ≠ .readingPayload → s.cnt = 1) := by
  rcases reading_cases hs with hs | ⟨hpair, hs⟩
  · have := hc.payload_cnt hs
    rw [missingBytes_payload hs]
    simp only [hs, ne_eq, not_true_eq_false, false_imp_iff, true_imp_iff, and_true]
    omega
  · rw [missingBytes_pair hpair]
    rcases hc.pair_cnt hs with h | h
    all_goals simp [h, hpair]

/-! ## The polls of a read phase -/

/-- A poll of a read phase spends an attempt and leaves bytes missing, or it delivers the last byte of the phase and
does not time out. -/
inductive ReadProgress (s : State) : State → Prop where
  | spends (v : State) (hst : v.st = s.st) (hatt : v.att = s.att - 1) (hchan : v.chan = s.chan.tail)
      (hmore : missingBytes v ≠ 0)
      (hbytes : (s.response = none ∧ missingBytes s = missingBytes v) ∨
        ∃ b, s.response = some b ∧ missingBytes s = missingBytes v + 1) :
      ReadProgress s (orTimeout .readTimeout v)
  | completes (b : Byte) (t : State) (hr : s.response = some b) (hlast : missingBytes s = 1)
      (hno : ¬(t.st = .failed ∧ t.err = .readTimeout)) : ReadProgress s t

/-- The first byte of a phase of two bytes. -/
theorem readProgress_first {s v : State} {b : Byte} (hs : s.st ≠ .readingPayload) (hr : s.response = some b)
    (hc : s.cnt = 0) (hst : v.st = s.st) (hatt : v.att = s.att - 1) (hchan : v.chan = s.chan.tail) (hcnt : v.cnt = 1) :
    ReadProgress s (orTimeout .readTimeout v) := by
  have hv : missingBytes v = 1 := by rw [missingBytes_pair (hst ▸ hs), hcnt]; rfl
  have hm : missingBytes s = 2 := by rw [missingBytes_pair hs, hc]; rfl
  exact .spends v hst hatt hchan (by simp [hv]) (.inr ⟨b, hr, by rw [hv, hm]⟩)

/-- The second byte of a phase of two bytes. -/
theorem readProgress_second {s t : State} {b : Byte} (hs : s.st ≠ .readingPayload) (hr : s.response = some b)
    (hc : s.cnt = 1) (hno : ¬(t.st = .failed ∧ t.err = .readTimeout)) : ReadProgress s t :=
  .completes b t hr (by rw [missingBytes_pair hs, hc]; rfl) hno

theorem afterLength_ne_failed (len : Half) : afterLength len ≠ .failed := by
  unfold afterLength
  split <;> simp

/-- All that a poll of a read phase can do to the bytes that are missing. -/
theorem PollEffect.readProgress {s t : State} (h : PollEffect s t) (hc : CntFits s) (hs : s.st.reading = true) :
    ReadProgress s t := by
  have search (hst : s.st = .seekingSync) : False := by simp [hst, St.reading] at hs
  have pair {p : St} (hst : s.st = p) (hp : p ≠ .readingPayload) : s.st ≠ .readingPayload := hst ▸ hp
  cases h with
  | searchEmpty hst => exact (search hst).elim
  | searchFirst hst => exact (search hst).elim
  | searchSynced hst => exact (search hst).elim
  | searchChained hst => exact (search hst).elim
  | searchMismatch _ hst => exact (search hst).elim
  | readEmpty _ hr =>
    have hmore : missingBytes (polled s) ≠ 0 := missingBytes_ne_zero (s := s) hc hs
    exact .spends (polled s) rfl rfl rfl hmore (.inl ⟨hr, rfl⟩)
  | headerClass b hst hr h0 => exact readProgress_first (pair hst (by decide)) hr h0 rfl rfl rfl rfl
  | headerId b hst hr h1 => exact readProgress_second (pair hst (by decide)) hr h1 (by simp)
  | lengthLow b hst hr h0 => exact readProgress_first (pair hst (by decide)) hr h0 rfl rfl rfl rfl
  | lengthHigh b hst hr h1 =>
    exact readProgress_second (pair hst (by decide)) hr h1 fun ⟨hf, _⟩ => afterLength_ne_failed _ hf
  | payloadLast b hst hr ha hlast =>
    exact .completes b _ hr (by rw [missingBytes_payload hst]; omega) (by simp)
  | payloadMore b hst hr ha hmore =>
    have hlt := hc.payload_cnt hst
    have hcnt : (s.cnt + 1).toNat = s.cnt.toNat + 1 := BitVec.toNat_add_of_lt (by have := s.len.isLt; simp; omega)
    have hv : missingBytes (setCnt (s.cnt + 1) (ckUpdate b (storeCell s.cnt.toNat b (polled s)))) =
        s.len.toNat - (s.cnt.toNat + 1) := hcnt ▸ missingBytes_payload hst
    refine .spends _ rfl rfl rfl ?_ (.inr ⟨b, hr, ?_⟩)
    · rw [hv]
      omega
    · rw [hv, missingBytes_payload hst]
      omega
  | checksumFirst b hst hr h0 => exact readProgress_first (pair hst (by decide)) hr h0 rfl rfl rfl rfl
  | checksumValid b hst hr h1 => exact readProgress_second (pair hst (by decide)) hr h1 (by simp)
  | checksumInvalid b hst hr h1 => exact readProgress_second (pair hst (by decide)) hr h1 (by simp)

/-- Settles O34: a poll that leaves bytes missing fails exactly where it spends the last attempt, and one that completes
its phase does not time out. -/
theorem timeoutExactlyWhenExhausted : Obligations.TimeoutExactlyWhenExhausted := by
  intro s t hinv hs hexec
  have hi := inPhase_of_inv hinv
  have hb := busy_of_reading hs
  have hpos := hi.att_pos hb
  rw [exec_command_busy rfl hb] at hexec
  simp only [← missingBytes_eq_one_iff hi.cnt_fits hs]
  cases (busyStep_effect hb hexec).readProgress hi.cnt_fits hs with
  | spends v hst hatt hchan hmore hbytes =>
    have hincomplete : ¬∃ b, s.response = some b ∧ missingBytes s = 1 := by
      rintro ⟨b, hr, hlast⟩
      rcases hbytes with ⟨hnone, _⟩ | ⟨_, _, hm⟩
      · simp [hnone] at hr
      · omega
    have hrunning : v.st ≠ .failed := by
      rw [hst]
      intro hf
      simp [hf, St.reading, St.busy] at hs
    rcases orTimeout_cases .readTimeout v with ⟨hv, heq⟩ | ⟨hv, heq⟩
    · rw [heq]
      exact ⟨fun _ => ⟨by omega, hincomplete⟩, fun _ => ⟨rfl, rfl⟩⟩
    · rw [heq]
      exact ⟨fun ⟨hf, _⟩ => absurd hf hrunning, fun ⟨h1, _⟩ => absurd h1 (by omega)⟩
  | completes b _ hr hlast hno => exact ⟨fun h => absurd h hno, fun ⟨_, h⟩ => absurd ⟨b, hr, hlast⟩ h⟩

end Sys2Proof.Machine.Laws
end

section
/-! PROOF. The frame read computes `readFrame` and `RECV` computes `recvFrame` (43_read_frame.md R193, R194): an exact
read that succeeds is a phase delivered in time, and one that fails is a timeout. -/

namespace Sys2Proof.Machine.Laws

/-! ## `readExact`, poll by poll -/

section
variable {k n : Nat} {b : Byte} {chan rest : List (Option Byte)}

theorem readExact_no_bytes (k : Nat) (chan : List (Option Byte)) : readExact k 0 chan = (some [], chan) := by
  cases k <;> rfl

theorem readExact_exhausted (n : Nat) (chan : List (Option Byte)) : readExact 0 (n + 1) chan = (none, chan) := rfl

theorem readExact_empty (h : nextPoll chan = (none, rest)) :
    readExact (k + 1) (n + 1) chan = readExact k (n + 1) rest := by
  simp [readExact, h]

theorem readExact_byte (h : nextPoll chan = (some b, rest)) :
    readExact (k + 1) (n + 1) chan = ((readExact k n rest).1.map (b :: ·), (readExact k n rest).2) := by
  simp [readExact, h]

end

/-! ## An exact read that succeeds -/

theorem delivers_empty_cons {k : Nat} {b : Byte} {bs : List Byte} {c : List (Option Byte)}
    (h : delivers k (b :: bs) c) : delivers (k + 1) (b :: bs) (none :: c) := by
  have hbytes := delivers_bytes h
  refine ⟨hbytes, Nat.succ_le_succ (delivers_length_le h), ?_⟩
  cases c with
  | nil => cases hbytes
  | cons r c =>
    rw [List.getLast?_cons_cons]
    exact delivers_getLast? h

theorem delivers_byte_cons {k : Nat} {bs : List Byte} {c : List (Option Byte)} (h : delivers k bs c) (b : Byte) :
    delivers (k + 1) (b :: bs) (some b :: c) := by
  refine ⟨congrArg (b :: ·) (delivers_bytes h), Nat.succ_le_succ (delivers_length_le h), ?_⟩
  cases c with
  | nil => simp
  | cons r c =>
    rw [List.getLast?_cons_cons]
    exact delivers_getLast? h

/-- The bytes of an exact read that succeeds are delivered within its attempts, at the head of the channel. -/
theorem readExact_delivers {k n : Nat} {chan rest : List (Option Byte)} {bs : List Byte}
    (h : readExact k n chan = (some bs, rest)) : bs.length = n ∧ ∃ c, chan = c ++ rest ∧ delivers k bs c := by
  induction k generalizing n chan bs with
  | zero =>
    cases n with
    | zero => cases h; exact ⟨rfl, [], rfl, rfl, le_rfl, by simp⟩
    | succ n => cases h
  | succ k ih =>
    cases n with
    | zero => cases h; exact ⟨rfl, [], rfl, rfl, Nat.zero_le _, by simp⟩
    | succ n =>
      match chan with
      | [] =>
        rw [readExact_empty (rest := []) rfl] at h
        obtain ⟨hlen, c, hc, hd⟩ := ih h
        obtain ⟨rfl, _⟩ := List.append_eq_nil_iff.1 hc.symm
        cases delivers_bytes hd
        cases hlen
      | none :: chan =>
        rw [readExact_empty rfl] at h
        obtain ⟨hlen, c, rfl, hd⟩ := ih h
        cases bs with
        | nil => cases hlen
        | cons b bs => exact ⟨hlen, none :: c, rfl, delivers_empty_cons hd⟩
      | some b :: chan =>
        rw [readExact_byte rfl, Prod.mk.injEq, Option.map_eq_some_iff] at h
        obtain ⟨⟨bs', hbs, rfl⟩, hrest⟩ := h
        obtain ⟨hlen, c, rfl, hd⟩ := ih (Prod.ext hbs hrest)
        exact ⟨congrArg (· + 1) hlen, some b :: c, rfl, delivers_byte_cons hd b⟩

/-- All that an exact read can answer. -/
theorem readExact_cases (k n : Nat) (chan : List (Option Byte)) :
    (∃ rest, readExact k n chan = (none, rest)) ∨
      ∃ bs c rest, readExact k n chan = (some bs, rest) ∧ bs.length = n ∧ chan = c ++ rest ∧ delivers k bs c := by
  cases h : readExact k n chan with
  | mk r rest =>
    cases r with
    | none => exact .inl ⟨rest, rfl⟩
    | some bs =>
      obtain ⟨hlen, c, hc, hd⟩ := readExact_delivers h
      exact .inr ⟨bs, c, rest, rfl, hlen, hc, hd⟩

/-- The same for the phases of two bytes. -/
theorem readExact_pair_cases (k : Nat) (chan : List (Option Byte)) :
    (∃ rest, readExact k 2 chan = (none, rest)) ∨
      ∃ x y c rest, readExact k 2 chan = (some [x, y], rest) ∧ chan = c ++ rest ∧ delivers k [x, y] c := by
  rcases readExact_cases k 2 chan with h | ⟨bs, c, rest, h, hlen, hc, hd⟩
  · exact .inl h
  · obtain ⟨x, y, rfl⟩ := List.length_eq_two.1 hlen
    exact .inr ⟨x, y, c, rest, h, hc, hd⟩

/-! ## An exact read that fails -/

/-- A failing exact read of the bytes that are missing fails in the same way after a poll that leaves bytes missing. -/
theorem readExact_none_spends {s v : State} {rest : List (Option Byte)}
    (h : readExact s.att (missingBytes s) s.chan = (none, rest)) (hpos : 1 ≤ s.att) (hatt : v.att = s.att - 1)
    (hchan : v.chan = s.chan.tail) (hmore : missingBytes v ≠ 0)
    (hbytes : (s.response = none ∧ missingBytes s = missingBytes v) ∨
      ∃ b, s.response = some b ∧ missingBytes s = missingBytes v + 1) :
    readExact v.att (missingBytes v) v.chan = (none, rest) := by
  have hpoll := nextPoll_chan s
  rw [← hchan] at hpoll
  obtain ⟨k, hk⟩ := Nat.exists_eq_add_of_le' hpos
  have hv : v.att = k := by omega
  rw [hk] at h
  rw [hv]
  rcases hbytes with ⟨hr, hm⟩ | ⟨b, hr, hm⟩
  · obtain ⟨n, hn⟩ := Nat.exists_eq_succ_of_ne_zero hmore
    rw [hr] at hpoll
    rw [hm, hn, readExact_empty hpoll] at h
    rw [hn]
    exact h
  · rw [hr] at hpoll
    rw [hm, readExact_byte hpoll, Prod.mk.injEq, Option.map_eq_none_iff] at h
    exact Prod.ext h.1 h.2

/-- Where an exact read of the missing bytes fails, the phase times out, the channel where `readExact` leaves it
(43_read_frame.md R190). -/
theorem ComesToRest.timesOut {s t : State} {rest : List (Option Byte)} (h : ComesToRest s t) (hi : InPhase s)
    (hs : s.st.reading = true) (hread : readExact s.att (missingBytes s) s.chan = (none, rest)) :
    t.st = .failed ∧ t.err = .readTimeout ∧ t.chan = rest := by
  induction h with
  | rest hb => simp [busy_of_reading hs] at hb
  | @poll s u t hp ht ih =>
    have hpos := hi.att_pos hp.busy
    have hnext := hp.inPhase hi
    cases hp.readProgress hi.cnt_fits hs with
    | spends v hst hatt hchan hmore hbytes =>
      have hv := readExact_none_spends hread hpos hatt hchan hmore hbytes
      rcases orTimeout_cases .readTimeout v with ⟨hlast, heq⟩ | ⟨_, heq⟩
      · obtain ⟨n, hn⟩ := Nat.exists_eq_succ_of_ne_zero hmore
        rw [hlast, hn] at hv
        cases hv
        rw [heq] at ht
        obtain rfl := ht.eq_of_rest rfl
        exact ⟨rfl, rfl, rfl⟩
      · rw [heq] at ih hnext
        exact ih hnext (hst ▸ hs) hv
    | completes b _ hr hlast =>
      have hpoll := nextPoll_chan s
      obtain ⟨k, hk⟩ := Nat.exists_eq_add_of_le' hpos
      rw [hr] at hpoll
      rw [hk, hlast, readExact_byte hpoll, readExact_no_bytes] at hread
      cases hread

/-! ## `readFrame`, phase by phase -/

section
variable {budget : Nat} {x y : Byte} {len : Half} {p : List Byte} {chan mid rest : List (Option Byte)}

theorem readFrame_timeout (h : readExact budget 2 chan = (none, rest)) :
    readFrame budget chan = (.failed .readTimeout, rest) := by
  simp [readFrame, h, pairOf]

theorem readFrame_header (h : readExact budget 2 chan = (some [x, y], rest)) :
    readFrame budget chan = readAfterHeader budget x y rest := by
  simp [readFrame, h, pairOf]

variable (cls msgId : Byte)

theorem readAfterHeader_timeout (h : readExact budget 2 chan = (none, rest)) :
    readAfterHeader budget cls msgId chan = (.failed .readTimeout, rest) := by
  simp [readAfterHeader, h, pairOf]

theorem readAfterHeader_length (h : readExact budget 2 chan = (some [x, y], rest)) :
    readAfterHeader budget cls msgId chan = readBody budget cls msgId (joinBytes x y) rest := by
  simp [readAfterHeader, h, pairOf]

theorem readBody_timeout (h : readExact budget len.toNat chan = (none, rest)) :
    readBody budget cls msgId len chan = (.failed .readTimeout, rest) := by
  simp [readBody, h]

theorem readBody_checksum_timeout (hp : readExact budget len.toNat chan = (some p, mid))
    (h : readExact budget 2 mid = (none, rest)) :
    readBody budget cls msgId len chan = (.failed .readTimeout, rest) := by
  simp [readBody, hp, h, pairOf]

theorem readBody_compared (hp : readExact budget len.toNat chan = (some p, mid))
    (h : readExact budget 2 mid = (some [x, y], rest)) :
    readBody budget cls msgId len chan =
      (if (x, y) = checksum (coveredBytes cls msgId len p) then .frame ⟨cls, msgId, p⟩
        else .failed .checksumMismatch, rest) := by
  simp only [readBody, hp, h, pairOf]
  split <;> rfl

end

/-! ## How a read phase ends -/

/-- Waiting for rest ends with this outcome, the channel as given. -/
def EndsAs (s : State) (r : Ending × List (Option Byte)) : Prop :=
  ∃ t, awaitRest s = .next t ∧ t.busy = false ∧ endingOf t = some r.1 ∧ t.chan = r.2

/-- Enough polls are as good as any larger number of them. -/
theorem awaitRest_eq_of_pollsLeft_le {s : State} (hi : InPhase s) {n : Nat} (hn : pollsLeft s ≤ n) :
    awaitRest s = awaitRestWithin n s := by
  obtain ⟨t, ht⟩ := exists_comesToRest hi
  rw [ht.awaitRest_eq hi, ht.awaitRestWithin_eq hi hn]

/-- The first `k` polls of a wait lead from `s` to `u`. -/
theorem EndsAs.of_polls {s u : State} {k : Nat} {r : Ending × List (Option Byte)} (hend : EndsAs u r) (hs : InPhase s)
    (hu : InPhase u) (h : ∀ n, awaitRestWithin (n + k) s = awaitRestWithin n u) : EndsAs s r := by
  have hsame : awaitRest s = awaitRest u := by
    rw [awaitRest_eq_of_pollsLeft_le hs (n := pollsLeft s + pollsLeft u + k) (by omega), h,
      awaitRest_eq_of_pollsLeft_le hu (Nat.le_add_left _ _)]
  rw [EndsAs, hsame]
  exact hend

theorem endsAs_timeout {s : State} {rest : List (Option Byte)} (hi : InPhase s) (hs : s.st.reading = true)
    (hread : readExact s.att (missingBytes s) s.chan = (none, rest)) : EndsAs s (.failed .readTimeout, rest) := by
  obtain ⟨t, ht⟩ := exists_comesToRest hi
  obtain ⟨hst, herr, hchan⟩ := ht.timesOut hi hs hread
  exact ⟨t, ht.awaitRest_eq hi, ht.busy_eq_false, by rw [endingOf_failed hst, herr], hchan⟩

/-- A phase at its beginning, a payload phase with a payload. -/
theorem inPhase_atPhase {p : St} {s : State} (hb : 1 ≤ s.budget) (hp : p = .readingPayload → s.len ≠ 0)
    (covered : List Byte) (todo : List (Option Byte)) : InPhase (atPhase p covered todo s) :=
  ⟨hb, fun _ => hb, fun _ => .inl rfl, fun h => (BitVec.pos_iff_ne_zero s.len).2 (hp h)⟩

theorem afterLength_eq_payload {len : Half} (h : afterLength len = .readingPayload) : len ≠ 0 := by
  rintro rfl
  cases h

/-- The outcome of a read whose checksum bytes have been compared. -/
theorem endingOf_compared {s : State} {p : List Byte} (hp : payloadOf s = some p) (covered : List Byte) (x y : Byte)
    (a : Nat) (rest : List (Option Byte)) :
    endingOf (awaiting a rest (comparedAt covered x y [] s)) =
      some (if (x, y) = checksum covered then .frame ⟨s.cls, s.id, p⟩ else .failed .checksumMismatch) := by
  split
  · next hv =>
    have hdone : (awaiting a rest (comparedAt covered x y [] s)).st = .done := if_pos hv
    rw [endingOf_done hdone, frameOf_done hdone hp]
    rfl
  · next hv =>
    have hfailed : (awaiting a rest (comparedAt covered x y [] s)).st = .failed := if_neg hv
    have herr : (awaiting a rest (comparedAt covered x y [] s)).err = .checksumMismatch := if_neg hv
    rw [endingOf_failed hfailed, herr]

/-- The checksum phase, after a payload that has been read (43_read_frame.md R188, R189). -/
theorem endsAs_checksumPhase {s : State} {p : List Byte} {chan mid : List (Option Byte)} (hb : 1 ≤ s.budget)
    (hp : payloadOf s = some p) (hread : readExact s.budget s.len.toNat chan = (some p, mid)) :
    EndsAs (atPhase .readingChecksum (coveredBytes s.cls s.id s.len p) mid s)
      (readBody s.budget s.cls s.id s.len chan) := by
  have hi := inPhase_atPhase (p := .readingChecksum) hb (by simp) (coveredBytes s.cls s.id s.len p) mid
  rcases readExact_pair_cases s.budget mid with ⟨rest, h⟩ | ⟨x, y, c, rest, h, rfl, hd⟩
  · rw [readBody_checksum_timeout _ _ hread h]
    exact endsAs_timeout hi rfl h
  · rw [readBody_compared _ _ hread h]
    obtain ⟨a, hend⟩ := awaitRestWithin_deliveredChecksum (s := s) (coveredBytes s.cls s.id s.len p) hd
    exact ⟨_, (awaitRest_eq_of_pollsLeft_le hi (Nat.le_add_right _ _)).trans (hend _ rest), comparedAt_busy _ x y [] s,
      endingOf_compared hp _ x y a rest, rfl⟩

/-- The payload phase, skipped for a zero length, and the checksum phase (43_read_frame.md R186 to R189). -/
theorem endsAs_body {s : State} (hb : 1 ≤ s.budget) (chan : List (Option Byte)) :
    EndsAs (atPhase (afterLength s.len) (coveredBytes s.cls s.id s.len []) chan s)
      (readBody s.budget s.cls s.id s.len chan) := by
  have hi := inPhase_atPhase hb afterLength_eq_payload (coveredBytes s.cls s.id s.len []) chan
  rcases readExact_cases s.budget s.len.toNat chan with ⟨rest, h⟩ | ⟨p, c, rest, h, hlen, rfl, hd⟩
  · have hl : s.len ≠ 0 := by
      intro hl
      rw [hl] at h
      cases (readExact_no_bytes s.budget chan).symm.trans h
    have hst : (atPhase (afterLength s.len) (coveredBytes s.cls s.id s.len []) chan s).st = .readingPayload :=
      if_neg hl
    rw [readBody_timeout _ _ h]
    refine endsAs_timeout hi (by rw [hst]; rfl) ?_
    rw [missingBytes_payload hst]
    exact h
  · have hpayload : payloadOf { s with pbuf := writeBlock s.pbuf 0 p } = some p := by
      have hcells := readFrom_writeBlock s.pbuf 0 p
      rwa [hlen] at hcells
    exact (endsAs_checksumPhase (s := { s with pbuf := writeBlock s.pbuf 0 p }) hb hpayload h).of_polls hi
      (inPhase_atPhase (s := { s with pbuf := writeBlock s.pbuf 0 p }) hb (fun hp => by cases hp) _ _)
      fun n => awaitRestWithin_deliveredAfterLength hlen hd n rest

/-- The length phase and those after it (43_read_frame.md R184 to R189). -/
theorem endsAs_afterHeader {s : State} (hb : 1 ≤ s.budget) (chan : List (Option Byte)) :
    EndsAs (atPhase .readingLength [s.cls, s.id] chan s) (readAfterHeader s.budget s.cls s.id chan) := by
  have hi := inPhase_atPhase (p := .readingLength) hb (by simp) [s.cls, s.id] chan
  rcases readExact_pair_cases s.budget chan with ⟨rest, h⟩ | ⟨lo, high, c, rest, h, rfl, hd⟩
  · rw [readAfterHeader_timeout _ _ h]
    exact endsAs_timeout hi rfl h
  · rw [readAfterHeader_length _ _ h]
    have hbytes : delivers s.budget [lowByte (joinBytes lo high), highByte (joinBytes lo high)] c := by
      rwa [lowByte_joinBytes, highByte_joinBytes]
    exact (endsAs_body (s := { s with len := joinBytes lo high }) hb rest).of_polls hi
      (inPhase_atPhase (s := { s with len := joinBytes lo high }) hb afterLength_eq_payload _ _)
      fun n => awaitRestWithin_deliveredLength [s.cls, s.id] hbytes n rest

/-- The whole frame read (43_read_frame.md R180 to R191). -/
theorem endsAs_readFrame {s : State} (hb : 1 ≤ s.budget) (chan : List (Option Byte)) :
    EndsAs (atPhase .readingHeader [] chan s) (readFrame s.budget chan) := by
  have hi := inPhase_atPhase (p := .readingHeader) hb (by simp) [] chan
  rcases readExact_pair_cases s.budget chan with ⟨rest, h⟩ | ⟨x, y, c, rest, h, rfl, hd⟩
  · rw [readFrame_timeout h]
    exact endsAs_timeout hi rfl h
  · rw [readFrame_header h]
    exact (endsAs_afterHeader (s := { s with cls := x, id := y }) hb rest).of_polls hi
      (inPhase_atPhase (s := { s with cls := x, id := y }) hb (fun hp => by cases hp) _ _)
      fun n => awaitRestWithin_deliveredHeader hd n rest

/-- Settles O35: an accepted `READ` begins the header phase. -/
theorem readComputesReadFrame : Obligations.ReadComputesReadFrame := by
  intro s hbud hs
  have hb : s.busy = false := by rw [State.busy, hs]; rfl
  have hread : exec .read s = .next (atPhase .readingHeader [] s.chan (noError (unchained s))) := by
    rw [exec_command_rest rfl hb, accepted, acceptRead_synced hs, beginRead_eq_atPhase]
    rfl
  obtain ⟨t, hend⟩ := endsAs_readFrame (s := noError (unchained s)) hbud s.chan
  exact ⟨_, t, hread, hend⟩

/-! ## `RECV` -/

theorem recvFrame_found {budget : Nat} {chan : List (Option Byte)} (h : (syncToFrame budget false chan).1 = true) :
    recvFrame budget chan = readFrame budget (syncToFrame budget false chan).2 := by
  unfold recvFrame
  split
  · next h' => rw [h']
  · next h' => rw [h'] at h; cases h

theorem recvFrame_lost {budget : Nat} {chan : List (Option Byte)} (h : ¬(syncToFrame budget false chan).1 = true) :
    recvFrame budget chan = (.failed .syncTimeout, (syncToFrame budget false chan).2) := by
  unfold recvFrame
  split
  · next h' => rw [h'] at h; exact absurd rfl h
  · next h' => rw [h']

/-- Settles O36: `RECV` is `SYNC` and then `READ`, and each of the two computes its function. -/
theorem recvComputesRecvFrame : Obligations.RecvComputesRecvFrame := by
  intro s hbud hb
  obtain ⟨r, t, v, w, hrecv, ht, hsync, hw, hcases⟩ := recvIsSyncThenRead s hbud hb
  obtain ⟨v', w', hsync', hw', hchan, hout, _, hframe⟩ := searchComputesSyncToFrame s hbud hb
  cases hsync.symm.trans hsync'
  cases hw.symm.trans hw'
  have hbudget : w.budget = s.budget := by rw [hframe]
  refine ⟨r, t, hrecv, ht, ?_⟩
  by_cases hfound : (syncToFrame s.budget false s.chan).1 = true
  · rw [if_pos hfound] at hout
    obtain ⟨hst, _⟩ := hout
    rw [if_pos hst] at hcases
    obtain ⟨x, y, hread, hy, rfl⟩ := hcases
    obtain ⟨x', y', hread', hy', hend⟩ := readComputesReadFrame w (hbudget ▸ hbud) hst
    cases hread.symm.trans hread'
    cases hy.symm.trans hy'
    rw [hbudget, hchan, ← recvFrame_found hfound] at hend
    exact hend
  · rw [if_neg hfound] at hout
    obtain ⟨hst, herr, _⟩ := hout
    rw [if_neg (by simp [hst])] at hcases
    subst hcases
    rw [recvFrame_lost hfound]
    exact ⟨by simp [State.busy, St.busy, hst], (endingOf_failed hst).trans (by rw [herr]), hchan⟩

end Sys2Proof.Machine.Laws
end

section
/-! PROOF. Totality (60_exceptions.md R253): no step of a block whose phase is in order faults or refuses, because in a
busy state one of the poll rules applies (41_step_commands.md R149) and a wait is made of such polls (R152). -/

namespace Sys2Proof.Machine.Laws

/-- At rest the command is accepted, whichever it is; in a busy state one poll rule applies, whatever is presented. -/
theorem exists_cmdStep_next {s : State} (hi : InPhase s) (c : BitVec 2) : ∃ t, cmdStep c s = .next t := by
  cases hb : s.busy with
  | false => exact ⟨_, (cmdStep_rest hb c).trans (exec_command_rest (wellFormed_decodeCommand c) hb)⟩
  | true =>
    obtain ⟨t, ht⟩ := exists_pollEffect hb hi.cnt_fits
    exact ⟨t, (cmdStep_busy hb c).trans ht.busyStep_eq⟩

/-- A wait ends in the state in which its polls come to rest. -/
theorem exists_waitStep_next {s : State} (hi : InPhase s) : ∃ t, waitStep s = .next t := by
  obtain ⟨t, ht⟩ := exists_comesToRest hi
  exact ⟨t, (waitStep_eq_awaitRest s).trans (ht.awaitRest_eq hi)⟩

/-- Settles O13, by the host's action: a reset step always has a next state, a step with a command or of a quiet host is
`exists_cmdStep_next`, and a wait is `exists_waitStep_next`. -/
theorem invariantStatesAlwaysGoOn : Obligations.InvariantStatesAlwaysGoOn := by
  intro s hi
  have hpop : InPhase s.popHost := inPhase_of_inv (inv_popHost hi)
  unfold goesOn
  cases hh : s.host with
  | nil =>
    rw [step_quiet hi.budget_pos hh]
    exact exists_cmdStep_next (inPhase_of_inv hi) 0
  | cons a rest =>
    cases a with
    | wait =>
      rw [step_wait hi.budget_pos hh]
      exact exists_waitStep_next hpop
    | drive rst c a =>
      cases rst with
      | true => exact ⟨_, step_reset hi.budget_pos hh⟩
      | false =>
        rw [step_drive hi.budget_pos hh]
        exact exists_cmdStep_next hpop c

end Sys2Proof.Machine.Laws
end

section
/-! PROOF. The first reset step (70_reset_and_hazards.md R271, R273): what the registers held before it is gone, so the
invariant holds after it whatever state the block powered up in. -/

namespace Sys2Proof.Machine.Laws

/-- Settles O16: the step is `resetRegs` (`step_reset`), and of the state before it `inv_resetRegs` asks only what no
reset writes, the budget and the buffer; taking the host's action changes neither. -/
theorem resetStepEstablishesTheInvariant : Obligations.ResetStepEstablishesTheInvariant := by
  intro s c a h hbudget hwf hhost
  have hbudget' : 1 ≤ s.popHost.budget := by rwa [popHost_budget]
  have hwf' : s.popHost.pbuf.wf := by rwa [popHost_pbuf]
  exact ⟨resetRegs s.popHost, step_reset hbudget hhost, inv_resetRegs hbudget' hwf'⟩

end Sys2Proof.Machine.Laws
end
